-- ==== Sys2Proof/Word.lean ====
section
/-! DEFINITION. The two word types of the machine: `XLEN_DATA` and `XLEN_PC` of spec/00_scope.md R3. -/

namespace Sys2Proof

/-- A register or memory cell: 8 bits (R3 `XLEN_DATA`). -/
abbrev Byte := BitVec 8

/-- The program counter and every effective address: 16 bits (R3 `XLEN_PC`). -/
abbrev Word := BitVec 16

end Sys2Proof
end

