-- ==== Sys2Proof/Syntax.lean ====
section
/-! DEFINITION. The instructions: one constructor per row of spec/opcode_table.json, 147 rows (spec/30_encoding.md R54).
A constructor is named by the mnemonic and the format (R52); its argument is the operand field of R53: `imm`, `zp` and
`rel` one byte, `addr` and `ptr` 16 bits. Formats IMP and REL, and JSR's one form, add no suffix. -/

namespace Sys2Proof

/-- The 13 instruction formats of R52. -/
inductive Format where
  | imp | acc | imm | zp | zpx | zpy | abs | absx | absy | ind | indx | indy | rel
  deriving DecidableEq, Repr

/-- Bytes of an instruction of each format, opcode byte included (R52, column "length"). -/
def Format.length : Format → Nat
  | .imp | .acc => 1
  | .imm | .zp | .zpx | .zpy | .indx | .indy | .rel => 2
  | .abs | .absx | .absy | .ind => 3

/-- The instructions (R54). -/
inductive Instr where
  -- LDA (R110)
  | ldaImm (imm : Byte)
  | ldaZp (zp : Byte)
  | ldaZpx (zp : Byte)
  | ldaAbs (addr : Word)
  | ldaAbsx (addr : Word)
  | ldaAbsy (addr : Word)
  | ldaIndx (zp : Byte)
  | ldaIndy (zp : Byte)
  -- LDX (R111)
  | ldxImm (imm : Byte)
  | ldxZp (zp : Byte)
  | ldxZpy (zp : Byte)
  | ldxAbs (addr : Word)
  | ldxAbsy (addr : Word)
  -- LDY (R112)
  | ldyImm (imm : Byte)
  | ldyZp (zp : Byte)
  | ldyZpx (zp : Byte)
  | ldyAbs (addr : Word)
  | ldyAbsx (addr : Word)
  -- STA (R113)
  | staZp (zp : Byte)
  | staZpx (zp : Byte)
  | staAbs (addr : Word)
  | staAbsx (addr : Word)
  | staAbsy (addr : Word)
  | staIndx (zp : Byte)
  | staIndy (zp : Byte)
  -- STX (R114)
  | stxZp (zp : Byte)
  | stxZpy (zp : Byte)
  | stxAbs (addr : Word)
  -- STY (R115)
  | styZp (zp : Byte)
  | styZpx (zp : Byte)
  | styAbs (addr : Word)
  -- TAX (R116)
  | tax
  -- TAY (R117)
  | tay
  -- TXA (R118)
  | txa
  -- TYA (R119)
  | tya
  -- TSX (R120)
  | tsx
  -- TXS (R121)
  | txs
  -- INC (R130)
  | incZp (zp : Byte)
  | incZpx (zp : Byte)
  | incAbs (addr : Word)
  | incAbsx (addr : Word)
  -- DEC (R131)
  | decZp (zp : Byte)
  | decZpx (zp : Byte)
  | decAbs (addr : Word)
  | decAbsx (addr : Word)
  -- INX (R132)
  | inx
  -- INY (R133)
  | iny
  -- DEX (R134)
  | dex
  -- DEY (R135)
  | dey
  -- AND (R140)
  | andImm (imm : Byte)
  | andZp (zp : Byte)
  | andZpx (zp : Byte)
  | andAbs (addr : Word)
  | andAbsx (addr : Word)
  | andAbsy (addr : Word)
  | andIndx (zp : Byte)
  | andIndy (zp : Byte)
  -- ORA (R141)
  | oraImm (imm : Byte)
  | oraZp (zp : Byte)
  | oraZpx (zp : Byte)
  | oraAbs (addr : Word)
  | oraAbsx (addr : Word)
  | oraAbsy (addr : Word)
  | oraIndx (zp : Byte)
  | oraIndy (zp : Byte)
  -- EOR (R142)
  | eorImm (imm : Byte)
  | eorZp (zp : Byte)
  | eorZpx (zp : Byte)
  | eorAbs (addr : Word)
  | eorAbsx (addr : Word)
  | eorAbsy (addr : Word)
  | eorIndx (zp : Byte)
  | eorIndy (zp : Byte)
  -- ADC (R143)
  | adcImm (imm : Byte)
  | adcZp (zp : Byte)
  | adcZpx (zp : Byte)
  | adcAbs (addr : Word)
  | adcAbsx (addr : Word)
  | adcAbsy (addr : Word)
  | adcIndx (zp : Byte)
  | adcIndy (zp : Byte)
  -- SBC (R144)
  | sbcImm (imm : Byte)
  | sbcZp (zp : Byte)
  | sbcZpx (zp : Byte)
  | sbcAbs (addr : Word)
  | sbcAbsx (addr : Word)
  | sbcAbsy (addr : Word)
  | sbcIndx (zp : Byte)
  | sbcIndy (zp : Byte)
  -- BIT (R145)
  | bitZp (zp : Byte)
  | bitAbs (addr : Word)
  -- ASL (R150)
  | aslAcc
  | aslZp (zp : Byte)
  | aslZpx (zp : Byte)
  | aslAbs (addr : Word)
  | aslAbsx (addr : Word)
  -- LSR (R151)
  | lsrAcc
  | lsrZp (zp : Byte)
  | lsrZpx (zp : Byte)
  | lsrAbs (addr : Word)
  | lsrAbsx (addr : Word)
  -- ROL (R152)
  | rolAcc
  | rolZp (zp : Byte)
  | rolZpx (zp : Byte)
  | rolAbs (addr : Word)
  | rolAbsx (addr : Word)
  -- ROR (R153)
  | rorAcc
  | rorZp (zp : Byte)
  | rorZpx (zp : Byte)
  | rorAbs (addr : Word)
  | rorAbsx (addr : Word)
  -- CMP (R160)
  | cmpImm (imm : Byte)
  | cmpZp (zp : Byte)
  | cmpZpx (zp : Byte)
  | cmpAbs (addr : Word)
  | cmpAbsx (addr : Word)
  | cmpAbsy (addr : Word)
  | cmpIndx (zp : Byte)
  | cmpIndy (zp : Byte)
  -- CPX (R161)
  | cpxImm (imm : Byte)
  | cpxZp (zp : Byte)
  | cpxAbs (addr : Word)
  -- CPY (R162)
  | cpyImm (imm : Byte)
  | cpyZp (zp : Byte)
  | cpyAbs (addr : Word)
  -- JMP (R170)
  | jmpAbs (addr : Word)
  | jmpInd (ptr : Word)
  -- JSR (R171)
  | jsr (addr : Word)
  -- RTS (R172)
  | rts
  -- BCC (R173)
  | bcc (rel : Byte)
  -- BCS (R174)
  | bcs (rel : Byte)
  -- BEQ (R175)
  | beq (rel : Byte)
  -- BNE (R176)
  | bne (rel : Byte)
  -- BMI (R177)
  | bmi (rel : Byte)
  -- BPL (R178)
  | bpl (rel : Byte)
  -- BVC (R179)
  | bvc (rel : Byte)
  -- BVS (R180)
  | bvs (rel : Byte)
  -- PHA (R190)
  | pha
  -- PLA (R191)
  | pla
  -- PHP (R192)
  | php
  -- CLC (R193)
  | clc
  -- SEC (R194)
  | sec
  -- CLV (R195)
  | clv
  -- CLD (R196)
  | cld
  -- SED (R197)
  | sed
  -- NOP (R198)
  | nop
  -- BRK (R199)
  | brk
  deriving DecidableEq, Repr

end Sys2Proof
end

