-- ==== Sys2Proof/WellFormed.lean ====
section
/-! DEFINITION. When a sequence of bytes is one instruction (spec/30_encoding.md R50 to R52, R54). A term of `Instr` is
well-formed by its types (an operand has exactly the width of its field, R53), so the checks are those on the bytes. -/

namespace Sys2Proof

/-- The opcode bytes of each format: the columns of R54's table by mnemonic. -/
def Format.opcodes : Format → List Byte
  | .imp =>
    [ 0xAA, 0xA8, 0x8A, 0x98, 0xBA, 0x9A, 0xE8, 0xC8, 0xCA, 0x88, 0x60, 0x48, 0x68, 0x08,
      0x18, 0x38, 0xB8, 0xD8, 0xF8, 0xEA, 0x00 ]
  | .acc =>
    [ 0x0A, 0x4A, 0x2A, 0x6A ]
  | .imm =>
    [ 0xA9, 0xA2, 0xA0, 0x29, 0x09, 0x49, 0x69, 0xE9, 0xC9, 0xE0, 0xC0 ]
  | .zp =>
    [ 0xA5, 0xA6, 0xA4, 0x85, 0x86, 0x84, 0xE6, 0xC6, 0x25, 0x05, 0x45, 0x65, 0xE5, 0x24,
      0x06, 0x46, 0x26, 0x66, 0xC5, 0xE4, 0xC4 ]
  | .zpx =>
    [ 0xB5, 0xB4, 0x95, 0x94, 0xF6, 0xD6, 0x35, 0x15, 0x55, 0x75, 0xF5, 0x16, 0x56, 0x36,
      0x76, 0xD5 ]
  | .zpy =>
    [ 0xB6, 0x96 ]
  | .abs =>
    [ 0xAD, 0xAE, 0xAC, 0x8D, 0x8E, 0x8C, 0xEE, 0xCE, 0x2D, 0x0D, 0x4D, 0x6D, 0xED, 0x2C,
      0x0E, 0x4E, 0x2E, 0x6E, 0xCD, 0xEC, 0xCC, 0x4C, 0x20 ]
  | .absx =>
    [ 0xBD, 0xBC, 0x9D, 0xFE, 0xDE, 0x3D, 0x1D, 0x5D, 0x7D, 0xFD, 0x1E, 0x5E, 0x3E, 0x7E,
      0xDD ]
  | .absy =>
    [ 0xB9, 0xBE, 0x99, 0x39, 0x19, 0x59, 0x79, 0xF9, 0xD9 ]
  | .ind =>
    [ 0x6C ]
  | .indx =>
    [ 0xA1, 0x81, 0x21, 0x01, 0x41, 0x61, 0xE1, 0xC1 ]
  | .indy =>
    [ 0xB1, 0x91, 0x31, 0x11, 0x51, 0x71, 0xF1, 0xD1 ]
  | .rel =>
    [ 0x90, 0xB0, 0xF0, 0xD0, 0x30, 0x10, 0x50, 0x70 ]

/-- The 13 formats. -/
def Format.all : List Format :=
  [.imp, .acc, .imm, .zp, .zpx, .zpy, .abs, .absx, .absy, .ind, .indx, .indy, .rel]

/-- The format of an opcode byte; none for a byte that is not in the table (R51, R54, R55). -/
def opcodeFormat (op : Byte) : Option Format :=
  Format.all.find? fun f => f.opcodes.contains op

/-- Why a sequence of bytes is not one instruction. -/
inductive IllFormed where
  /-- No opcode byte (R50: one opcode byte at the lowest address). -/
  | noOpcode
  /-- The first byte is not in the table (R55). -/
  | absentOpcode (op : Byte)
  /-- Fewer or more bytes than the opcode's format has (R51, R52). -/
  | wrongLength (op : Byte) (expected found : Nat)
  deriving DecidableEq, Repr

/-- What is wrong with a sequence of bytes as one instruction, if anything. -/
def illFormed : List Byte → Option IllFormed
  | [] => some .noOpcode
  | op :: operands =>
    match opcodeFormat op with
    | none => some (.absentOpcode op)
    | some f =>
      if operands.length + 1 = f.length then none
      else some (.wrongLength op f.length (operands.length + 1))

/-- The bytes are exactly one instruction of the baseline table. -/
def wellFormed (bytes : List Byte) : Bool := (illFormed bytes).isNone

end Sys2Proof
end

