-- ==== Sys2Proof/Decode.lean ====
section
/-! DEFINITION. The decoder, total on any bytes, and the encoder. The decoder's table is spec/30_encoding.md R54's map by
opcode byte, one list per high nibble; the encoder is written from R54's table by mnemonic, and the two are compared in
Laws and in the statements. -/

namespace Sys2Proof

/-- A 16-bit quantity from its low and its high byte (R34, R53: little-endian). -/
def wordOf (lo hi : Byte) : Word := hi ++ lo

/-- Bits 7:0 of a 16-bit quantity. -/
def lowByte (w : Word) : Byte := w.extractLsb' 0 8

/-- Bits 15:8 of a 16-bit quantity. -/
def highByte (w : Word) : Byte := w.extractLsb' 8 8

/-- What an opcode byte stands for: an instruction with no operand byte, with one, or with a 16-bit operand (R50). -/
inductive Entry where
  | op0 (i : Instr)
  | op1 (mk : Byte → Instr)
  | op2 (mk : Word → Instr)

/-- Opcode bytes 0x00 to 0x0F (R54, row 0x of the map by opcode byte). -/
def opcodeRow0 : List (Byte × Entry) :=
  [ (0x00, .op0 .brk), (0x01, .op1 .oraIndx), (0x05, .op1 .oraZp), (0x06, .op1 .aslZp),
    (0x08, .op0 .php), (0x09, .op1 .oraImm), (0x0A, .op0 .aslAcc), (0x0D, .op2 .oraAbs),
    (0x0E, .op2 .aslAbs) ]

/-- Opcode bytes 0x10 to 0x1F (R54, row 1x of the map by opcode byte). -/
def opcodeRow1 : List (Byte × Entry) :=
  [ (0x10, .op1 .bpl), (0x11, .op1 .oraIndy), (0x15, .op1 .oraZpx), (0x16, .op1 .aslZpx),
    (0x18, .op0 .clc), (0x19, .op2 .oraAbsy), (0x1D, .op2 .oraAbsx), (0x1E, .op2 .aslAbsx) ]

/-- Opcode bytes 0x20 to 0x2F (R54, row 2x of the map by opcode byte). -/
def opcodeRow2 : List (Byte × Entry) :=
  [ (0x20, .op2 .jsr), (0x21, .op1 .andIndx), (0x24, .op1 .bitZp), (0x25, .op1 .andZp),
    (0x26, .op1 .rolZp), (0x29, .op1 .andImm), (0x2A, .op0 .rolAcc), (0x2C, .op2 .bitAbs),
    (0x2D, .op2 .andAbs), (0x2E, .op2 .rolAbs) ]

/-- Opcode bytes 0x30 to 0x3F (R54, row 3x of the map by opcode byte). -/
def opcodeRow3 : List (Byte × Entry) :=
  [ (0x30, .op1 .bmi), (0x31, .op1 .andIndy), (0x35, .op1 .andZpx), (0x36, .op1 .rolZpx),
    (0x38, .op0 .sec), (0x39, .op2 .andAbsy), (0x3D, .op2 .andAbsx), (0x3E, .op2 .rolAbsx) ]

/-- Opcode bytes 0x40 to 0x4F (R54, row 4x of the map by opcode byte). -/
def opcodeRow4 : List (Byte × Entry) :=
  [ (0x41, .op1 .eorIndx), (0x45, .op1 .eorZp), (0x46, .op1 .lsrZp), (0x48, .op0 .pha),
    (0x49, .op1 .eorImm), (0x4A, .op0 .lsrAcc), (0x4C, .op2 .jmpAbs), (0x4D, .op2 .eorAbs),
    (0x4E, .op2 .lsrAbs) ]

/-- Opcode bytes 0x50 to 0x5F (R54, row 5x of the map by opcode byte). -/
def opcodeRow5 : List (Byte × Entry) :=
  [ (0x50, .op1 .bvc), (0x51, .op1 .eorIndy), (0x55, .op1 .eorZpx), (0x56, .op1 .lsrZpx),
    (0x59, .op2 .eorAbsy), (0x5D, .op2 .eorAbsx), (0x5E, .op2 .lsrAbsx) ]

/-- Opcode bytes 0x60 to 0x6F (R54, row 6x of the map by opcode byte). -/
def opcodeRow6 : List (Byte × Entry) :=
  [ (0x60, .op0 .rts), (0x61, .op1 .adcIndx), (0x65, .op1 .adcZp), (0x66, .op1 .rorZp),
    (0x68, .op0 .pla), (0x69, .op1 .adcImm), (0x6A, .op0 .rorAcc), (0x6C, .op2 .jmpInd),
    (0x6D, .op2 .adcAbs), (0x6E, .op2 .rorAbs) ]

/-- Opcode bytes 0x70 to 0x7F (R54, row 7x of the map by opcode byte). -/
def opcodeRow7 : List (Byte × Entry) :=
  [ (0x70, .op1 .bvs), (0x71, .op1 .adcIndy), (0x75, .op1 .adcZpx), (0x76, .op1 .rorZpx),
    (0x79, .op2 .adcAbsy), (0x7D, .op2 .adcAbsx), (0x7E, .op2 .rorAbsx) ]

/-- Opcode bytes 0x80 to 0x8F (R54, row 8x of the map by opcode byte). -/
def opcodeRow8 : List (Byte × Entry) :=
  [ (0x81, .op1 .staIndx), (0x84, .op1 .styZp), (0x85, .op1 .staZp), (0x86, .op1 .stxZp),
    (0x88, .op0 .dey), (0x8A, .op0 .txa), (0x8C, .op2 .styAbs), (0x8D, .op2 .staAbs),
    (0x8E, .op2 .stxAbs) ]

/-- Opcode bytes 0x90 to 0x9F (R54, row 9x of the map by opcode byte). -/
def opcodeRow9 : List (Byte × Entry) :=
  [ (0x90, .op1 .bcc), (0x91, .op1 .staIndy), (0x94, .op1 .styZpx), (0x95, .op1 .staZpx),
    (0x96, .op1 .stxZpy), (0x98, .op0 .tya), (0x99, .op2 .staAbsy), (0x9A, .op0 .txs),
    (0x9D, .op2 .staAbsx) ]

/-- Opcode bytes 0xA0 to 0xAF (R54, row Ax of the map by opcode byte). -/
def opcodeRowA : List (Byte × Entry) :=
  [ (0xA0, .op1 .ldyImm), (0xA1, .op1 .ldaIndx), (0xA2, .op1 .ldxImm), (0xA4, .op1 .ldyZp),
    (0xA5, .op1 .ldaZp), (0xA6, .op1 .ldxZp), (0xA8, .op0 .tay), (0xA9, .op1 .ldaImm),
    (0xAA, .op0 .tax), (0xAC, .op2 .ldyAbs), (0xAD, .op2 .ldaAbs), (0xAE, .op2 .ldxAbs) ]

/-- Opcode bytes 0xB0 to 0xBF (R54, row Bx of the map by opcode byte). -/
def opcodeRowB : List (Byte × Entry) :=
  [ (0xB0, .op1 .bcs), (0xB1, .op1 .ldaIndy), (0xB4, .op1 .ldyZpx), (0xB5, .op1 .ldaZpx),
    (0xB6, .op1 .ldxZpy), (0xB8, .op0 .clv), (0xB9, .op2 .ldaAbsy), (0xBA, .op0 .tsx),
    (0xBC, .op2 .ldyAbsx), (0xBD, .op2 .ldaAbsx), (0xBE, .op2 .ldxAbsy) ]

/-- Opcode bytes 0xC0 to 0xCF (R54, row Cx of the map by opcode byte). -/
def opcodeRowC : List (Byte × Entry) :=
  [ (0xC0, .op1 .cpyImm), (0xC1, .op1 .cmpIndx), (0xC4, .op1 .cpyZp), (0xC5, .op1 .cmpZp),
    (0xC6, .op1 .decZp), (0xC8, .op0 .iny), (0xC9, .op1 .cmpImm), (0xCA, .op0 .dex),
    (0xCC, .op2 .cpyAbs), (0xCD, .op2 .cmpAbs), (0xCE, .op2 .decAbs) ]

/-- Opcode bytes 0xD0 to 0xDF (R54, row Dx of the map by opcode byte). -/
def opcodeRowD : List (Byte × Entry) :=
  [ (0xD0, .op1 .bne), (0xD1, .op1 .cmpIndy), (0xD5, .op1 .cmpZpx), (0xD6, .op1 .decZpx),
    (0xD8, .op0 .cld), (0xD9, .op2 .cmpAbsy), (0xDD, .op2 .cmpAbsx), (0xDE, .op2 .decAbsx) ]

/-- Opcode bytes 0xE0 to 0xEF (R54, row Ex of the map by opcode byte). -/
def opcodeRowE : List (Byte × Entry) :=
  [ (0xE0, .op1 .cpxImm), (0xE1, .op1 .sbcIndx), (0xE4, .op1 .cpxZp), (0xE5, .op1 .sbcZp),
    (0xE6, .op1 .incZp), (0xE8, .op0 .inx), (0xE9, .op1 .sbcImm), (0xEA, .op0 .nop),
    (0xEC, .op2 .cpxAbs), (0xED, .op2 .sbcAbs), (0xEE, .op2 .incAbs) ]

/-- Opcode bytes 0xF0 to 0xFF (R54, row Fx of the map by opcode byte). -/
def opcodeRowF : List (Byte × Entry) :=
  [ (0xF0, .op1 .beq), (0xF1, .op1 .sbcIndy), (0xF5, .op1 .sbcZpx), (0xF6, .op1 .incZpx),
    (0xF8, .op0 .sed), (0xF9, .op2 .sbcAbsy), (0xFD, .op2 .sbcAbsx), (0xFE, .op2 .incAbsx) ]

/-- The baseline `OPCODE_TABLE`: 147 entries (R54). -/
def opcodeTable : List (Byte × Entry) :=
  opcodeRow0 ++ opcodeRow1 ++ opcodeRow2 ++ opcodeRow3 ++ opcodeRow4 ++ opcodeRow5 ++
  opcodeRow6 ++ opcodeRow7 ++ opcodeRow8 ++ opcodeRow9 ++ opcodeRowA ++ opcodeRowB ++
  opcodeRowC ++ opcodeRowD ++ opcodeRowE ++ opcodeRowF

/-- The table's entry for an opcode byte; the whole byte is matched (R50). -/
def lookupOpcode (op : Byte) : Option Entry :=
  (opcodeTable.find? fun row => row.1 == op).map Prod.snd

/-- Why bytes do not begin with an instruction. -/
inductive DecodeError where
  /-- There is no byte. -/
  | empty
  /-- The opcode byte is not in the table: UnknownOpcode (R55). -/
  | unknownOpcode (op : Byte)
  /-- The opcode is in the table but its operand bytes are not all there. -/
  | truncated (op : Byte)
  deriving DecidableEq, Repr

/-- The instruction at the head of a list of bytes, and the bytes after it (R50, R53). -/
def decode : List Byte → Except DecodeError (Instr × List Byte)
  | [] => .error .empty
  | op :: rest =>
    match lookupOpcode op with
    | none => .error (.unknownOpcode op)
    | some (.op0 i) => .ok (i, rest)
    | some (.op1 mk) =>
      match rest with
      | b1 :: rest' => .ok (mk b1, rest')
      | [] => .error (.truncated op)
    | some (.op2 mk) =>
      match rest with
      | b1 :: b2 :: rest' => .ok (mk (wordOf b1 b2), rest')
      | _ => .error (.truncated op)

/-- The bytes of an instruction in memory order (R52, R53), opcode bytes from R54's table by mnemonic. -/
def encode : Instr → List Byte
  -- LDA (R110)
  | .ldaImm imm => [0xA9, imm]
  | .ldaZp zp => [0xA5, zp]
  | .ldaZpx zp => [0xB5, zp]
  | .ldaAbs addr => [0xAD, lowByte addr, highByte addr]
  | .ldaAbsx addr => [0xBD, lowByte addr, highByte addr]
  | .ldaAbsy addr => [0xB9, lowByte addr, highByte addr]
  | .ldaIndx zp => [0xA1, zp]
  | .ldaIndy zp => [0xB1, zp]
  -- LDX (R111)
  | .ldxImm imm => [0xA2, imm]
  | .ldxZp zp => [0xA6, zp]
  | .ldxZpy zp => [0xB6, zp]
  | .ldxAbs addr => [0xAE, lowByte addr, highByte addr]
  | .ldxAbsy addr => [0xBE, lowByte addr, highByte addr]
  -- LDY (R112)
  | .ldyImm imm => [0xA0, imm]
  | .ldyZp zp => [0xA4, zp]
  | .ldyZpx zp => [0xB4, zp]
  | .ldyAbs addr => [0xAC, lowByte addr, highByte addr]
  | .ldyAbsx addr => [0xBC, lowByte addr, highByte addr]
  -- STA (R113)
  | .staZp zp => [0x85, zp]
  | .staZpx zp => [0x95, zp]
  | .staAbs addr => [0x8D, lowByte addr, highByte addr]
  | .staAbsx addr => [0x9D, lowByte addr, highByte addr]
  | .staAbsy addr => [0x99, lowByte addr, highByte addr]
  | .staIndx zp => [0x81, zp]
  | .staIndy zp => [0x91, zp]
  -- STX (R114)
  | .stxZp zp => [0x86, zp]
  | .stxZpy zp => [0x96, zp]
  | .stxAbs addr => [0x8E, lowByte addr, highByte addr]
  -- STY (R115)
  | .styZp zp => [0x84, zp]
  | .styZpx zp => [0x94, zp]
  | .styAbs addr => [0x8C, lowByte addr, highByte addr]
  -- TAX (R116)
  | .tax => [0xAA]
  -- TAY (R117)
  | .tay => [0xA8]
  -- TXA (R118)
  | .txa => [0x8A]
  -- TYA (R119)
  | .tya => [0x98]
  -- TSX (R120)
  | .tsx => [0xBA]
  -- TXS (R121)
  | .txs => [0x9A]
  -- INC (R130)
  | .incZp zp => [0xE6, zp]
  | .incZpx zp => [0xF6, zp]
  | .incAbs addr => [0xEE, lowByte addr, highByte addr]
  | .incAbsx addr => [0xFE, lowByte addr, highByte addr]
  -- DEC (R131)
  | .decZp zp => [0xC6, zp]
  | .decZpx zp => [0xD6, zp]
  | .decAbs addr => [0xCE, lowByte addr, highByte addr]
  | .decAbsx addr => [0xDE, lowByte addr, highByte addr]
  -- INX (R132)
  | .inx => [0xE8]
  -- INY (R133)
  | .iny => [0xC8]
  -- DEX (R134)
  | .dex => [0xCA]
  -- DEY (R135)
  | .dey => [0x88]
  -- AND (R140)
  | .andImm imm => [0x29, imm]
  | .andZp zp => [0x25, zp]
  | .andZpx zp => [0x35, zp]
  | .andAbs addr => [0x2D, lowByte addr, highByte addr]
  | .andAbsx addr => [0x3D, lowByte addr, highByte addr]
  | .andAbsy addr => [0x39, lowByte addr, highByte addr]
  | .andIndx zp => [0x21, zp]
  | .andIndy zp => [0x31, zp]
  -- ORA (R141)
  | .oraImm imm => [0x09, imm]
  | .oraZp zp => [0x05, zp]
  | .oraZpx zp => [0x15, zp]
  | .oraAbs addr => [0x0D, lowByte addr, highByte addr]
  | .oraAbsx addr => [0x1D, lowByte addr, highByte addr]
  | .oraAbsy addr => [0x19, lowByte addr, highByte addr]
  | .oraIndx zp => [0x01, zp]
  | .oraIndy zp => [0x11, zp]
  -- EOR (R142)
  | .eorImm imm => [0x49, imm]
  | .eorZp zp => [0x45, zp]
  | .eorZpx zp => [0x55, zp]
  | .eorAbs addr => [0x4D, lowByte addr, highByte addr]
  | .eorAbsx addr => [0x5D, lowByte addr, highByte addr]
  | .eorAbsy addr => [0x59, lowByte addr, highByte addr]
  | .eorIndx zp => [0x41, zp]
  | .eorIndy zp => [0x51, zp]
  -- ADC (R143)
  | .adcImm imm => [0x69, imm]
  | .adcZp zp => [0x65, zp]
  | .adcZpx zp => [0x75, zp]
  | .adcAbs addr => [0x6D, lowByte addr, highByte addr]
  | .adcAbsx addr => [0x7D, lowByte addr, highByte addr]
  | .adcAbsy addr => [0x79, lowByte addr, highByte addr]
  | .adcIndx zp => [0x61, zp]
  | .adcIndy zp => [0x71, zp]
  -- SBC (R144)
  | .sbcImm imm => [0xE9, imm]
  | .sbcZp zp => [0xE5, zp]
  | .sbcZpx zp => [0xF5, zp]
  | .sbcAbs addr => [0xED, lowByte addr, highByte addr]
  | .sbcAbsx addr => [0xFD, lowByte addr, highByte addr]
  | .sbcAbsy addr => [0xF9, lowByte addr, highByte addr]
  | .sbcIndx zp => [0xE1, zp]
  | .sbcIndy zp => [0xF1, zp]
  -- BIT (R145)
  | .bitZp zp => [0x24, zp]
  | .bitAbs addr => [0x2C, lowByte addr, highByte addr]
  -- ASL (R150)
  | .aslAcc => [0x0A]
  | .aslZp zp => [0x06, zp]
  | .aslZpx zp => [0x16, zp]
  | .aslAbs addr => [0x0E, lowByte addr, highByte addr]
  | .aslAbsx addr => [0x1E, lowByte addr, highByte addr]
  -- LSR (R151)
  | .lsrAcc => [0x4A]
  | .lsrZp zp => [0x46, zp]
  | .lsrZpx zp => [0x56, zp]
  | .lsrAbs addr => [0x4E, lowByte addr, highByte addr]
  | .lsrAbsx addr => [0x5E, lowByte addr, highByte addr]
  -- ROL (R152)
  | .rolAcc => [0x2A]
  | .rolZp zp => [0x26, zp]
  | .rolZpx zp => [0x36, zp]
  | .rolAbs addr => [0x2E, lowByte addr, highByte addr]
  | .rolAbsx addr => [0x3E, lowByte addr, highByte addr]
  -- ROR (R153)
  | .rorAcc => [0x6A]
  | .rorZp zp => [0x66, zp]
  | .rorZpx zp => [0x76, zp]
  | .rorAbs addr => [0x6E, lowByte addr, highByte addr]
  | .rorAbsx addr => [0x7E, lowByte addr, highByte addr]
  -- CMP (R160)
  | .cmpImm imm => [0xC9, imm]
  | .cmpZp zp => [0xC5, zp]
  | .cmpZpx zp => [0xD5, zp]
  | .cmpAbs addr => [0xCD, lowByte addr, highByte addr]
  | .cmpAbsx addr => [0xDD, lowByte addr, highByte addr]
  | .cmpAbsy addr => [0xD9, lowByte addr, highByte addr]
  | .cmpIndx zp => [0xC1, zp]
  | .cmpIndy zp => [0xD1, zp]
  -- CPX (R161)
  | .cpxImm imm => [0xE0, imm]
  | .cpxZp zp => [0xE4, zp]
  | .cpxAbs addr => [0xEC, lowByte addr, highByte addr]
  -- CPY (R162)
  | .cpyImm imm => [0xC0, imm]
  | .cpyZp zp => [0xC4, zp]
  | .cpyAbs addr => [0xCC, lowByte addr, highByte addr]
  -- JMP (R170)
  | .jmpAbs addr => [0x4C, lowByte addr, highByte addr]
  | .jmpInd ptr => [0x6C, lowByte ptr, highByte ptr]
  -- JSR (R171)
  | .jsr addr => [0x20, lowByte addr, highByte addr]
  -- RTS (R172)
  | .rts => [0x60]
  -- BCC (R173)
  | .bcc rel => [0x90, rel]
  -- BCS (R174)
  | .bcs rel => [0xB0, rel]
  -- BEQ (R175)
  | .beq rel => [0xF0, rel]
  -- BNE (R176)
  | .bne rel => [0xD0, rel]
  -- BMI (R177)
  | .bmi rel => [0x30, rel]
  -- BPL (R178)
  | .bpl rel => [0x10, rel]
  -- BVC (R179)
  | .bvc rel => [0x50, rel]
  -- BVS (R180)
  | .bvs rel => [0x70, rel]
  -- PHA (R190)
  | .pha => [0x48]
  -- PLA (R191)
  | .pla => [0x68]
  -- PHP (R192)
  | .php => [0x08]
  -- CLC (R193)
  | .clc => [0x18]
  -- SEC (R194)
  | .sec => [0x38]
  -- CLV (R195)
  | .clv => [0xB8]
  -- CLD (R196)
  | .cld => [0xD8]
  -- SED (R197)
  | .sed => [0xF8]
  -- NOP (R198)
  | .nop => [0xEA]
  -- BRK (R199)
  | .brk => [0x00]

/-- The three bytes of an instruction given as one number, bit 0 the least significant bit of the first byte and every
bit from `nbits` up zero. -/
def tableWordBytes (nbits w : Nat) : List Byte :=
  let v := w % 2 ^ nbits
  [BitVec.ofNat 8 v, BitVec.ofNat 8 (v / 2 ^ 8), BitVec.ofNat 8 (v / 2 ^ 16)]

/-- The instruction the decoder reads from an instruction whose bits are `w`, numbered as spec/opcode_table.json
numbers them; none where it refuses. -/
def decodeTableWord (nbits w : Nat) : Option Instr :=
  match decode (tableWordBytes nbits w) with
  | .ok (i, _) => some i
  | .error _ => none

end Sys2Proof
end

