-- ==== Sys2Proof/Config.lean ====
section
/-! DEFINITION. The implementation parameters of spec/00_scope.md R3: the ones the spec gives a value, and the two
OPEN ones as free values (an opaque constant without a body: nothing can be proved of what it is). -/

namespace Sys2Proof

/-- The two operations whose result is open while flag D is 1 (spec/43_logic_arith.md R146). -/
inductive ArithOp where
  | adc
  | sbc
  deriving DecidableEq, Repr

/-- What R146 leaves undefined after ADC or SBC with D = 1: the values of A, C, V, Z and N. -/
structure DecimalResult where
  a : Byte
  c : Bool
  v : Bool
  z : Bool
  n : Bool
  deriving DecidableEq, Repr, Inhabited

namespace Config

/-- `RESET_PC` (R3). -/
def resetPc : Word := 0x0600

/-- `RESET_SP` (R3). -/
def resetSp : Byte := 0xFF

/-- `RESET_P` (R3). -/
def resetP : Byte := 0x30

/-- First cell that `RESET` does not clear: `RESET_CLEAR` is 0x0000 to 0x05FF inclusive (R3, 90_conflicts.md C1). -/
def resetClearEnd : Nat := 0x0600

/-- `MEM_CAPACITY` (R3, R30). -/
def memCapacity : Nat := 65536

/-- `STACK_BASE` (R3). -/
def stackBase : Word := 0x0100

/-- `RND_ADDR` (R3, R222). -/
def rndAddr : Word := 0x00FE

/-- `HALT_ON_PC_ZERO` (R3, R71), true for this hardware. Log entry 11. -/
def haltOnPcZero : Bool := true

/-- `JMP_INDIRECT_PAGE_WRAP` (R3, R92), true for this hardware. Log entry 11. -/
def jmpIndirectPageWrap : Bool := true

/-- `RND` (R3, R222), OPEN: the byte drawn at the n-th step. A free value: any sequence of bytes. Log entry 1. -/
opaque rnd : Nat → Byte

/-- `DECIMAL_ARITH` (R3, R146), OPEN: what ADC and SBC leave in A, C, V, Z, N when D = 1, from the operation, A, the
operand and the carry in. The first argument is the draw counter, so that two steps on the same operands need not
agree. A free value. Log entry 5. -/
opaque decimalArith : Nat → ArithOp → Byte → Byte → Bool → DecimalResult

end Config

end Sys2Proof
end

