-- ==== Sys2Proof/Machine/State.lean ====
section
/-! DEFINITION. The machine's state, all of it (spec/10_state.md R10 to R29), the reasons a step stops, and the state
right after reset. Plain data. -/

namespace Sys2Proof.Machine

/-- RUN, the run state of the Execution Engine (R22). -/
inductive RunState where
  | running
  | stopped
  deriving DecidableEq, Repr

/-- HOLD: whether a rendezvous token is outstanding (R24). -/
inductive HoldState where
  | held
  | free
  deriving DecidableEq, Repr

/-- A record of the FAULT latch (R23): the kind, the address and the byte. An OutOfBounds address lies outside 16 bits,
so it is an integer (R212). -/
inductive FaultRecord where
  | unknownOpcode (addr : Word) (byte : Byte)
  | outOfBounds (addr : Int) (byte : Byte)
  deriving DecidableEq, Repr

/-- Memory M (R26, R30). `cells` lists the cells that differ from what an unlisted address reads as, addresses strictly
rising; `rnd` is the one device cell, M[0x00FE] (R222), which `cells` never lists (log entry 3). -/
structure Memory where
  cells : List Host.Cell
  rnd : Byte
  deriving DecidableEq, Repr

/-- The state of the machine. The last two fields are the model's record of outputs and inputs and no register of the
spec: `stackWraps` (R82, log entry 9) and `draws` (log entry 2). -/
structure State where
  /-- A, the accumulator (R10). -/
  a : Byte
  /-- X, an index register (R11). -/
  x : Byte
  /-- Y, an index register (R12). -/
  y : Byte
  /-- SP, the stack pointer (R13). -/
  sp : Byte
  /-- PC, the program counter (R14). -/
  pc : Word
  /-- P, the status register (R15 to R21). -/
  p : Byte
  /-- M (R26). -/
  mem : Memory
  /-- RUN (R22). -/
  run : RunState
  /-- The pending stop request (R27 (a), R71, R199). -/
  stopRequested : Bool
  /-- FAULT (R23). -/
  faultLatch : Option FaultRecord
  /-- HOLD (R24). -/
  hold : HoldState
  /-- The opcode bytes bound in EXT_TABLE (R58), latest first, no repeats. -/
  extTable : List Byte
  /-- How many StackWrap events have been emitted (R82). -/
  stackWraps : Nat
  /-- How many bytes have been drawn from RND since construction: one a step (R222). -/
  draws : Nat
  deriving DecidableEq, Repr

/-- Why the machine has stopped with a fault. -/
inductive Fault where
  /-- Raised by `step` in a state whose FAULT latch holds an UnknownOpcode (R211): a state with FAULT set is a fault
  outcome, never final and never a successful end of run (R218). Safe: the spec gives no step from it (R101, R220). -/
  | unknownOpcode (addr : Word) (byte : Byte)
  /-- Raised by `step` in a state whose FAULT latch holds an OutOfBounds (R212). Safe, as above; no baseline instruction
  latches it (R33). -/
  | outOfBounds (addr : Int) (byte : Byte)
  deriving DecidableEq, Repr

/-- Why the model gives no meaning. -/
inductive Refusal where
  /-- An instruction of the table without a meaning yet, by its mnemonic. Raised by `exec`'s refused arms; there are none
  left. Safe. -/
  | notModelled (mnemonic : String)
  /-- Raised by a step whose opcode byte is bound in EXT_TABLE: the spec does not define what a handler does, and treats
  the step as refused (R58, U4). Safe. -/
  | extensionHandler (op : Byte)
  /-- Raised by the host move RESET while RUN = Running (R244, U5). Safe. -/
  | resetWhileRunning
  /-- Raised by the host move START while FAULT is set (R98, R220, U6). Safe. -/
  | startWhileFaulted
  /-- Raised by the host move STEP while FAULT is set (R100, R220, U6). Safe. -/
  | stepWhileFaulted
  /-- Raised by the host move STEP while HOLD = Held (R100, U8). Safe. -/
  | stepWhileHeld
  /-- Raised by a STOP said to land inside a step when no step of the pacing loop is enabled (R99, R101). Safe. -/
  | noStepInFlight
  /-- Raised by OBS_BEGIN while HOLD = Held (R224, U8). Safe. -/
  | beginWhileHeld
  /-- Raised by OBS_END while HOLD = Free (R225, U8). Safe. -/
  | endWhileFree
  /-- Raised by a host read, a host write or a flags query while RUN = Running and HOLD = Free (R45, R230, U10). Safe. -/
  | accessWhileRunning
  /-- Raised by binding an opcode after the first step (R58, R230). Safe. -/
  | bindAfterFirstStep
  /-- Raised by binding a byte that is in the baseline table (R58). Safe. -/
  | bindBaselineOpcode (op : Byte)
  deriving DecidableEq, Repr

/-- What a meaning or a step answers. -/
abbrev Result := Host.Outcome State Fault Refusal

/-- The machine right after construction over a caller-supplied Memory (R240): INIT_MEM is the argument. -/
def State.construct (initMem : Memory) : State where
  a := 0x00#8
  x := 0x00#8
  y := 0x00#8
  sp := Config.resetSp
  pc := Config.resetPc
  p := Config.resetP
  mem := initMem
  run := .stopped
  stopRequested := false
  faultLatch := none
  hold := .free
  extTable := []
  stackWraps := 0
  draws := 0

/-- The machine right after reset (R29, R241, R242), with nothing listed in memory: INIT_MEM all zero (log entry 4). -/
def State.reset : State := .construct { cells := [], rnd := 0x00#8 }

end Sys2Proof.Machine
end

