-- ==== Sys2Proof/Machine/Ops.lean ====
section
/-! DEFINITION. The named operations over memory and registers: memory (spec/20_memory.md R30 to R32), the fetch
primitives (spec/40_engine_and_primitives.md R72, R73), the stack (R80 to R82), control transfer (R79), taking a fault
(spec/60_exceptions.md R211, R218) and RESET, the one way back from it (R220, spec/70_reset_and_hazards.md R241). -/

namespace Sys2Proof.Machine

/-! ## Register writes -/

def State.setA (s : State) (v : Byte) : State := { s with a := v }
def State.setX (s : State) (v : Byte) : State := { s with x := v }
def State.setY (s : State) (v : Byte) : State := { s with y := v }
def State.setSp (s : State) (v : Byte) : State := { s with sp := v }
def State.setPc (s : State) (v : Word) : State := { s with pc := v }
def State.setP (s : State) (v : Byte) : State := { s with p := v }
def State.setMem (s : State) (v : Memory) : State := { s with mem := v }
def State.setRun (s : State) (v : RunState) : State := { s with run := v }
def State.setStopRequested (s : State) (v : Bool) : State := { s with stopRequested := v }
def State.setFaultLatch (s : State) (v : Option FaultRecord) : State := { s with faultLatch := v }
def State.setHold (s : State) (v : HoldState) : State := { s with hold := v }
def State.setExtTable (s : State) (v : List Byte) : State := { s with extTable := v }
def State.setStackWraps (s : State) (v : Nat) : State := { s with stackWraps := v }
def State.setDraws (s : State) (v : Nat) : State := { s with draws := v }

/-! ## Memory -/

/-- What an address that memory does not list reads as (log entry 4). -/
def Memory.unlisted : Byte := 0x00#8

/-- The canonical form: addresses strictly rising and in range (R30), no entry for the random-byte cell, no entry equal
to what an unlisted address reads as. -/
abbrev Memory.wf (m : Memory) : Prop :=
  m.cells.Pairwise (fun c d => c.1 < d.1) ∧
    ∀ c ∈ m.cells, c.1 < Config.memCapacity ∧ c.1 ≠ Config.rndAddr.toNat ∧ c.2 ≠ Memory.unlisted

/-- The byte listed at a key, or what an unlisted address reads as. -/
def readCells (k : Nat) : List Host.Cell → Byte
  | [] => Memory.unlisted
  | c :: cs => if c.1 = k then c.2 else readCells k cs

/-- List a byte at a key, keeping the keys rising. -/
def insertCell (k : Nat) (v : Byte) : List Host.Cell → List Host.Cell
  | [] => [(k, v)]
  | c :: cs =>
    if k < c.1 then (k, v) :: c :: cs
    else if c.1 = k then (k, v) :: cs
    else c :: insertCell k v cs

/-- Write a byte at a key: a byte equal to what an unlisted address reads as is not listed. -/
def writeCells (k : Nat) (v : Byte) (cs : List Host.Cell) : List Host.Cell :=
  if v = Memory.unlisted then cs.filter (fun c => c.1 ≠ k) else insertCell k v cs

/-- `MemRead(addr, 1)` (R31). -/
def Memory.read (m : Memory) (addr : Word) : Byte :=
  if addr = Config.rndAddr then m.rnd else readCells addr.toNat m.cells

/-- `MemWrite(addr, 1, v)` (R32). -/
def Memory.write (m : Memory) (addr : Word) (v : Byte) : Memory :=
  if addr = Config.rndAddr then { m with rnd := v }
  else { m with cells := writeCells addr.toNat v m.cells }

/-- Zero the cells that RESET clears (R241: 0x0000 to 0x05FF inclusive, the random-byte cell among them). -/
def Memory.clearLow (m : Memory) : Memory where
  cells := m.cells.filter (fun c => Config.resetClearEnd ≤ c.1)
  rnd := 0x00#8

/-- `MemRead` in a state. -/
def State.read (s : State) (addr : Word) : Byte := s.mem.read addr

/-- `MemWrite` in a state. -/
def State.write (s : State) (addr : Word) (v : Byte) : State := s.setMem (s.mem.write addr v)

/-! ## Fetch and control transfer -/

/-- A byte taken as a 16-bit unsigned value (R5 `zext_16`). -/
def zext16 (b : Byte) : Word := b.setWidth 16

/-- Move PC past `n` bytes of the instruction stream, modulo 65536 (R14, R72). -/
def State.consume (s : State) (n : Word) : State := s.setPc (s.pc + n)

/-- `popByte()`: the byte at PC, PC moved past it (R72). -/
def State.popByte (s : State) : Byte × State := (s.read s.pc, s.consume 1#16)

/-- `popWord()`: two bytes, low byte first (R73). -/
def State.popWord (s : State) : Word × State :=
  let lo := s.popByte
  let hi := lo.2.popByte
  (wordOf lo.1 hi.1, hi.2)

/-- The target of `jumpBranch(off)` from a PC (R79): a byte above 0x7F counts as negative. -/
def branchTarget (pc : Word) (off : Byte) : Word :=
  if off.toNat > 0x7F then pc - BitVec.ofNat 16 (0x100 - off.toNat) else pc + zext16 off

/-- `jumpBranch(off)` (R79). -/
def State.jumpBranch (s : State) (off : Byte) : State := s.setPc (branchTarget s.pc off)

/-! ## The stack -/

/-- The cell that the stack pointer selects (R13, R38). -/
def stackAddr (sp : Byte) : Word := Config.stackBase + zext16 sp

/-- The StackWrap event (R82): recorded, read by no rule. -/
def State.emitStackWrap (s : State) : State := s.setStackWraps (s.stackWraps + 1)

/-- `push(v)` (R80). -/
def State.push (s : State) (v : Byte) : State :=
  let t := s.write (stackAddr s.sp) v
  let t := if s.sp = 0x00#8 then t.emitStackWrap else t
  t.setSp (s.sp - 1#8)

/-- The state `pop()` leaves (R81). -/
def State.popState (s : State) : State :=
  let t := if s.sp = 0xFF#8 then s.emitStackWrap else s
  t.setSp (s.sp + 1#8)

/-- The byte `pop()` returns (R81): read after SP has moved. -/
def State.popValue (s : State) : Byte := s.popState.read (stackAddr s.popState.sp)

/-! ## The end of a step, faults, RESET -/

/-- Ask the engine to stop at the end of the step (R71, R99, R199). -/
def State.requestStop (s : State) : State := s.setStopRequested true

/-- `RUN <- Stopped`; a pending request is thereby answered (log entry 8). -/
def State.stopEngine (s : State) : State := (s.setRun .stopped).setStopRequested false

/-- Point 5 of a step, the halt condition (R70, R71). -/
def State.haltCheck (s : State) : State :=
  if (Config.haltOnPcZero && s.pc = 0x0000#16) || s.stopRequested then s.stopEngine else s

/-- Taking a fault (R211, R212, R218): latch the record, then `RUN <- Stopped`. Nothing is pushed and PC is not moved. -/
def State.takeFault (s : State) (r : FaultRecord) : State := (s.setFaultLatch (some r)).stopEngine

/-- The registers at their reset values (R241). -/
def State.resetRegisters (s : State) : State :=
  (((((s.setA 0x00#8).setX 0x00#8).setY 0x00#8).setPc Config.resetPc).setSp Config.resetSp).setP Config.resetP

/-- The RESET operation (R241, R244): the low cells zeroed, the registers at their reset values, FAULT cleared; RUN, HOLD
and the rest as they are. There is no return-from-fault instruction: this is the one way on (R220). -/
def State.performReset (s : State) : State :=
  ((s.setMem s.mem.clearLow).resetRegisters).setFaultLatch none

end Sys2Proof.Machine
end

