-- ==== Sys2Proof/Machine/Flags.lean ====
section
/-! DEFINITION. The flags of P (spec/10_state.md R15 to R21), the flag helpers (spec/40_engine_and_primitives.md R74 to
R78) and every flag computation of the instructions (spec/43_logic_arith.md, spec/44_shift_rotate.md). -/

namespace Sys2Proof.Machine

/-- The flags with a meaning (R15). -/
inductive Flag where
  | c | z | d | v | n
  deriving DecidableEq, Repr

/-- The bit of P that a flag is (R15, R17 to R21). -/
def Flag.bit : Flag → Nat
  | .c => 0
  | .z => 1
  | .d => 3
  | .v => 6
  | .n => 7

/-- A byte with one bit set to a value and all other bits unchanged (R5 `P.C <- b`). -/
def putBit (p : Byte) (i : Nat) (b : Bool) : Byte :=
  (p &&& ~~~(1#8 <<< i)) ||| (if b then 1#8 <<< i else 0#8)

/-- Read a flag. -/
def State.flag (s : State) (f : Flag) : Bool := s.p.getLsbD f.bit

/-- Write one flag, all other bits of P unchanged. -/
def State.setFlag (s : State) (f : Flag) (b : Bool) : State := s.setP (putBit s.p f.bit b)

/-- `setSZ(v)` (R74). -/
def State.setSZ (s : State) (v : Byte) : State := (s.setFlag .z (v = 0x00#8)).setFlag .n (v.getLsbD 7)

/-- `setCarryFromBit0(v)` (R75). -/
def State.setCarryFromBit0 (s : State) (v : Byte) : State := s.setFlag .c (v.getLsbD 0)

/-- `clearCarry` (R76). -/
def State.clearCarry (s : State) : State := s.setFlag .c false

/-- `setCarry` (R76). -/
def State.setCarry (s : State) : State := s.setFlag .c true

/-- `clearOverflow` (R76). -/
def State.clearOverflow (s : State) : State := s.setFlag .v false

/-- `setOverflow` (R76). -/
def State.setOverflow (s : State) : State := s.setFlag .v true

/-- `carry()` (R77). -/
def State.carry (s : State) : Bool := s.flag .c

/-- `zero()` (R77). -/
def State.zero (s : State) : Bool := s.flag .z

/-- `negative()` (R77). -/
def State.negative (s : State) : Bool := s.flag .n

/-- `overflow()` (R77). -/
def State.overflow (s : State) : Bool := s.flag .v

/-- `decimalMode()` (R77). -/
def State.decimalMode (s : State) : Bool := s.flag .d

/-- `compare(r, o)` (R78): C is the unsigned comparison, Z and N come from the 8-bit difference. -/
def State.compare (s : State) (r o : Byte) : State := (s.setFlag .c (o.toNat ≤ r.toNat)).setSZ (r - o)

/-- A carry flag as a number. -/
def carryNat (c : Bool) : Nat := if c then 1 else 0

/-- A sum or difference with its carry and overflow. -/
structure ArithResult where
  value : Byte
  carry : Bool
  overflow : Bool
  deriving DecidableEq, Repr

/-- ADC's computation in binary mode (R143), on exact numbers; `a` is the old A. -/
def adcResult (a m : Byte) (c : Bool) : ArithResult :=
  let t := a.toNat + m.toNat + carryNat c
  let r := BitVec.ofNat 8 t
  { value := r
    carry := decide (t > 0xFF)
    overflow := ~~~(a ^^^ m) &&& (a ^^^ r) &&& 0x80#8 != 0#8 }

/-- SBC's computation in binary mode (R144): the carry is the complement of a borrow, in and out. -/
def sbcResult (a m : Byte) (c : Bool) : ArithResult :=
  let t : Int := (a.toNat : Int) - m.toNat - (1 - carryNat c)
  let r := BitVec.ofInt 8 t
  { value := r
    carry := decide (t ≥ 0)
    overflow := (a ^^^ m) &&& (a ^^^ r) &&& 0x80#8 != 0#8 }

/-- A shifted byte with the bit shifted out. -/
structure ShiftResult where
  value : Byte
  carry : Bool
  deriving DecidableEq, Repr

/-- ASL's computation (R150): the carry in is ignored. -/
def aslResult (v : Byte) (_c : Bool) : ShiftResult := { value := v <<< 1, carry := v.getLsbD 7 }

/-- LSR's computation (R151): the carry in is ignored. -/
def lsrResult (v : Byte) (_c : Bool) : ShiftResult := { value := v >>> 1, carry := v.getLsbD 0 }

/-- ROL's computation (R152): the old carry enters bit 0. -/
def rolResult (v : Byte) (c : Bool) : ShiftResult :=
  { value := (v <<< 1) ||| (if c then 0x01#8 else 0x00#8), carry := v.getLsbD 7 }

/-- ROR's computation (R153): the old carry enters bit 7. -/
def rorResult (v : Byte) (c : Bool) : ShiftResult :=
  { value := (v >>> 1) ||| (if c then 0x80#8 else 0x00#8), carry := v.getLsbD 0 }

/-- The character of a bit in the `flags()` string (R227). -/
def bitChar (b : Bool) : Char := if b then '1' else '0'

/-- The `flags()` string: P in binary, bit 7 first (R227). -/
def flagChars (p : Byte) : List Char := [7, 6, 5, 4, 3, 2, 1, 0].map fun i => bitChar (p.getLsbD i)

end Sys2Proof.Machine
end

