-- ==== Sys2Proof/Machine/Operands.lean ====
section
/-! DEFINITION. The addressing modes (spec/40_engine_and_primitives.md R83 to R97). A mode is applied in a state whose PC
is just past the opcode byte; the operand bytes are already fields of the instruction (`decode` reads them from the
instruction stream, R53), and consuming them moves PC. Formats IMP and ACC consume nothing (R83, R84). -/

namespace Sys2Proof.Machine

/-- The modes that yield an effective address, with their operand field (R86 to R91, R93, R94). -/
inductive MemMode where
  | zp (b : Byte)
  | zpx (b : Byte)
  | zpy (b : Byte)
  | abs (w : Word)
  | absx (w : Word)
  | absy (w : Word)
  | indx (b : Byte)
  | indy (b : Byte)
  deriving DecidableEq, Repr

/-- How many operand bytes a mode consumes (table at the end of section 7). -/
def MemMode.operandBytes : MemMode → Word
  | .zp _ | .zpx _ | .zpy _ | .indx _ | .indy _ => 1#16
  | .abs _ | .absx _ | .absy _ => 2#16

/-- The 16-bit pointer at a zero-page address, low byte first, the high byte's address wrapping within the zero page
(R34, R93, R94). -/
def State.zeroPagePointer (s : State) (p : Byte) : Word :=
  wordOf (s.read (zext16 p)) (s.read (zext16 (p + 1#8)))

/-- `EA(mode)` (R86 to R91, R93, R94). -/
def MemMode.ea (m : MemMode) (s : State) : Word :=
  match m with
  | .zp b => zext16 b
  | .zpx b => zext16 (b + s.x)
  | .zpy b => zext16 (b + s.y)
  | .abs w => w
  | .absx w => w + zext16 s.x
  | .absy w => w + zext16 s.y
  | .indx b => s.zeroPagePointer (b + s.x)
  | .indy b => s.zeroPagePointer b + zext16 s.y

/-- Where IND reads the high byte of the target: on the pointer's own page when the parameter is true (R92). -/
def indirectHighAddr (pageWrap : Bool) (ptr : Word) : Word :=
  if pageWrap then (ptr &&& 0xFF00#16) ||| ((ptr + 1#16) &&& 0x00FF#16) else ptr + 1#16

/-- The target IND reads through its pointer (R92). -/
def State.indirectTarget (s : State) (pageWrap : Bool) (ptr : Word) : Word :=
  wordOf (s.read ptr) (s.read (indirectHighAddr pageWrap ptr))

/-- The source operand of a reading instruction: an immediate or a memory cell (R96). -/
inductive Src where
  | imm (v : Byte)
  | mem (m : MemMode)
  deriving DecidableEq, Repr

/-- How many operand bytes the source consumes (R85, R96). -/
def Src.operandBytes : Src → Word
  | .imm _ => 1#16
  | .mem m => m.operandBytes

/-- `Operand(mode)` (R96). -/
def Src.value (src : Src) (s : State) : Byte :=
  match src with
  | .imm v => v
  | .mem m => s.read (m.ea s)

/-- The operand of a shift or rotate: the accumulator or a memory cell (R84, R97). -/
inductive ShiftTarget where
  | acc
  | mem (m : MemMode)
  deriving DecidableEq, Repr

end Sys2Proof.Machine
end

