-- ==== Sys2Proof/Machine/Compare.lean ====
section
/-! DEFINITION. Compare (spec/45_compare.md R160 to R162). -/

namespace Sys2Proof.Machine

/-- Compare a register with the source operand: only C, Z, N change (R78, R160 to R162). -/
def compareReg (reg : Byte) (src : Src) (s : State) : Result :=
  .next ((s.consume src.operandBytes).compare reg (src.value s))

/-- CMP, immediate (R160, mode R85). -/
def execCmpImm (imm : Byte) (s : State) : Result := compareReg s.a (.imm imm) s

/-- CMP, zero page (R160, mode R86). -/
def execCmpZp (zp : Byte) (s : State) : Result := compareReg s.a (.mem (.zp zp)) s

/-- CMP, zero page,X (R160, mode R87). -/
def execCmpZpx (zp : Byte) (s : State) : Result := compareReg s.a (.mem (.zpx zp)) s

/-- CMP, absolute (R160, mode R89). -/
def execCmpAbs (addr : Word) (s : State) : Result := compareReg s.a (.mem (.abs addr)) s

/-- CMP, absolute,X (R160, mode R90). -/
def execCmpAbsx (addr : Word) (s : State) : Result := compareReg s.a (.mem (.absx addr)) s

/-- CMP, absolute,Y (R160, mode R91). -/
def execCmpAbsy (addr : Word) (s : State) : Result := compareReg s.a (.mem (.absy addr)) s

/-- CMP, (zp,X) (R160, mode R93). -/
def execCmpIndx (zp : Byte) (s : State) : Result := compareReg s.a (.mem (.indx zp)) s

/-- CMP, (zp),Y (R160, mode R94). -/
def execCmpIndy (zp : Byte) (s : State) : Result := compareReg s.a (.mem (.indy zp)) s

/-- CPX, immediate (R161, mode R85). -/
def execCpxImm (imm : Byte) (s : State) : Result := compareReg s.x (.imm imm) s

/-- CPX, zero page (R161, mode R86). -/
def execCpxZp (zp : Byte) (s : State) : Result := compareReg s.x (.mem (.zp zp)) s

/-- CPX, absolute (R161, mode R89). -/
def execCpxAbs (addr : Word) (s : State) : Result := compareReg s.x (.mem (.abs addr)) s

/-- CPY, immediate (R162, mode R85). -/
def execCpyImm (imm : Byte) (s : State) : Result := compareReg s.y (.imm imm) s

/-- CPY, zero page (R162, mode R86). -/
def execCpyZp (zp : Byte) (s : State) : Result := compareReg s.y (.mem (.zp zp)) s

/-- CPY, absolute (R162, mode R89). -/
def execCpyAbs (addr : Word) (s : State) : Result := compareReg s.y (.mem (.abs addr)) s

end Sys2Proof.Machine
end

