-- ==== Sys2Proof/Machine/Control.lean ====
section
/-! DEFINITION. Jumps, branches, subroutine call and return (spec/46_jump_branch_subroutine.md R170 to R181). -/

namespace Sys2Proof.Machine

/-- JSR's effect (R171): the address of the instruction's last byte is pushed, high byte first. -/
def callSubroutine (target : Word) (s : State) : Result :=
  let t := s.consume 2#16
  let ret := t.pc - 1#16
  .next (((t.push (highByte ret)).push (lowByte ret)).setPc target)

/-- RTS's effect (R172): the address is popped, low byte first, and PC is the address after it. -/
def returnFromSubroutine (s : State) : Result :=
  let t := s.popState
  .next (t.popState.setPc (wordOf s.popValue t.popValue + 1#16))

/-- The template of the branches (R95): the offset byte is always consumed. -/
def branchIf (cond : Bool) (rel : Byte) (s : State) : Result :=
  let t := s.consume 1#16
  .next (if cond then t.jumpBranch rel else t)

/-- JMP, absolute (R170, mode R89). -/
def execJmpAbs (addr : Word) (s : State) : Result := .next (s.setPc addr)

/-- JMP, indirect (R170, mode R92). -/
def execJmpInd (ptr : Word) (s : State) : Result := .next (s.setPc (s.indirectTarget Config.jmpIndirectPageWrap ptr))

/-- JSR, absolute (R171, mode R89). -/
def execJsr (addr : Word) (s : State) : Result := callSubroutine addr s

/-- RTS (R172, mode R83). -/
def execRts (s : State) : Result := returnFromSubroutine s

/-- BCC (R173, mode R95). -/
def execBcc (rel : Byte) (s : State) : Result := branchIf (!s.carry) rel s

/-- BCS (R174, mode R95). -/
def execBcs (rel : Byte) (s : State) : Result := branchIf s.carry rel s

/-- BEQ (R175, mode R95). -/
def execBeq (rel : Byte) (s : State) : Result := branchIf s.zero rel s

/-- BNE (R176, mode R95). -/
def execBne (rel : Byte) (s : State) : Result := branchIf (!s.zero) rel s

/-- BMI (R177, mode R95). -/
def execBmi (rel : Byte) (s : State) : Result := branchIf s.negative rel s

/-- BPL (R178, mode R95). -/
def execBpl (rel : Byte) (s : State) : Result := branchIf (!s.negative) rel s

/-- BVC (R179, mode R95). -/
def execBvc (rel : Byte) (s : State) : Result := branchIf (!s.overflow) rel s

/-- BVS (R180, mode R95). -/
def execBvs (rel : Byte) (s : State) : Result := branchIf s.overflow rel s

end Sys2Proof.Machine
end

