-- ==== Sys2Proof/Machine/IncDec.lean ====
section
/-! DEFINITION. Increment and decrement (spec/42_inc_dec.md R130 to R135): modulo 256, C, V and D untouched. -/

namespace Sys2Proof.Machine

/-- Replace a memory cell by a function of it and set Z and N from the result; the address is computed once (R97). -/
def modifyByte (f : Byte → Byte) (m : MemMode) (s : State) : Result :=
  let e := m.ea s
  let r := f (s.read e)
  .next (((s.consume m.operandBytes).write e r).setSZ r)

/-- INC, zero page (R130, mode R86). -/
def execIncZp (zp : Byte) (s : State) : Result := modifyByte (· + 1#8) (.zp zp) s

/-- INC, zero page,X (R130, mode R87). -/
def execIncZpx (zp : Byte) (s : State) : Result := modifyByte (· + 1#8) (.zpx zp) s

/-- INC, absolute (R130, mode R89). -/
def execIncAbs (addr : Word) (s : State) : Result := modifyByte (· + 1#8) (.abs addr) s

/-- INC, absolute,X (R130, mode R90). -/
def execIncAbsx (addr : Word) (s : State) : Result := modifyByte (· + 1#8) (.absx addr) s

/-- DEC, zero page (R131, mode R86). -/
def execDecZp (zp : Byte) (s : State) : Result := modifyByte (· - 1#8) (.zp zp) s

/-- DEC, zero page,X (R131, mode R87). -/
def execDecZpx (zp : Byte) (s : State) : Result := modifyByte (· - 1#8) (.zpx zp) s

/-- DEC, absolute (R131, mode R89). -/
def execDecAbs (addr : Word) (s : State) : Result := modifyByte (· - 1#8) (.abs addr) s

/-- DEC, absolute,X (R131, mode R90). -/
def execDecAbsx (addr : Word) (s : State) : Result := modifyByte (· - 1#8) (.absx addr) s

/-- INX (R132, mode R83). -/
def execInx (s : State) : Result := .next ((s.setX (s.x + 1#8)).setSZ (s.x + 1#8))

/-- INY (R133, mode R83). -/
def execIny (s : State) : Result := .next ((s.setY (s.y + 1#8)).setSZ (s.y + 1#8))

/-- DEX (R134, mode R83). -/
def execDex (s : State) : Result := .next ((s.setX (s.x - 1#8)).setSZ (s.x - 1#8))

/-- DEY (R135, mode R83). -/
def execDey (s : State) : Result := .next ((s.setY (s.y - 1#8)).setSZ (s.y - 1#8))

end Sys2Proof.Machine
end

