-- ==== Sys2Proof/Machine/LoadStore.lean ====
section
/-! DEFINITION. Register loads, stores and transfers (spec/41_load_store_transfer.md R110 to R121). -/

namespace Sys2Proof.Machine

/-- Load A from the source and set Z and N from the value (R110). -/
def loadA (src : Src) (s : State) : Result :=
  .next (((s.consume src.operandBytes).setA (src.value s)).setSZ (src.value s))

/-- Load X from the source and set Z and N from the value (R111). -/
def loadX (src : Src) (s : State) : Result :=
  .next (((s.consume src.operandBytes).setX (src.value s)).setSZ (src.value s))

/-- Load Y from the source and set Z and N from the value (R112). -/
def loadY (src : Src) (s : State) : Result :=
  .next (((s.consume src.operandBytes).setY (src.value s)).setSZ (src.value s))

/-- Store a register's value in the cell the mode addresses; the cell is not read and no flag is written (R97, R113 to
R115). -/
def storeByte (v : Byte) (m : MemMode) (s : State) : Result :=
  .next ((s.consume m.operandBytes).write (m.ea s) v)

/-- LDA, immediate (R110, mode R85). -/
def execLdaImm (imm : Byte) (s : State) : Result := loadA (.imm imm) s

/-- LDA, zero page (R110, mode R86). -/
def execLdaZp (zp : Byte) (s : State) : Result := loadA (.mem (.zp zp)) s

/-- LDA, zero page,X (R110, mode R87). -/
def execLdaZpx (zp : Byte) (s : State) : Result := loadA (.mem (.zpx zp)) s

/-- LDA, absolute (R110, mode R89). -/
def execLdaAbs (addr : Word) (s : State) : Result := loadA (.mem (.abs addr)) s

/-- LDA, absolute,X (R110, mode R90). -/
def execLdaAbsx (addr : Word) (s : State) : Result := loadA (.mem (.absx addr)) s

/-- LDA, absolute,Y (R110, mode R91). -/
def execLdaAbsy (addr : Word) (s : State) : Result := loadA (.mem (.absy addr)) s

/-- LDA, (zp,X) (R110, mode R93). -/
def execLdaIndx (zp : Byte) (s : State) : Result := loadA (.mem (.indx zp)) s

/-- LDA, (zp),Y (R110, mode R94). -/
def execLdaIndy (zp : Byte) (s : State) : Result := loadA (.mem (.indy zp)) s

/-- LDX, immediate (R111, mode R85). -/
def execLdxImm (imm : Byte) (s : State) : Result := loadX (.imm imm) s

/-- LDX, zero page (R111, mode R86). -/
def execLdxZp (zp : Byte) (s : State) : Result := loadX (.mem (.zp zp)) s

/-- LDX, zero page,Y (R111, mode R88). -/
def execLdxZpy (zp : Byte) (s : State) : Result := loadX (.mem (.zpy zp)) s

/-- LDX, absolute (R111, mode R89). -/
def execLdxAbs (addr : Word) (s : State) : Result := loadX (.mem (.abs addr)) s

/-- LDX, absolute,Y (R111, mode R91). -/
def execLdxAbsy (addr : Word) (s : State) : Result := loadX (.mem (.absy addr)) s

/-- LDY, immediate (R112, mode R85). -/
def execLdyImm (imm : Byte) (s : State) : Result := loadY (.imm imm) s

/-- LDY, zero page (R112, mode R86). -/
def execLdyZp (zp : Byte) (s : State) : Result := loadY (.mem (.zp zp)) s

/-- LDY, zero page,X (R112, mode R87). -/
def execLdyZpx (zp : Byte) (s : State) : Result := loadY (.mem (.zpx zp)) s

/-- LDY, absolute (R112, mode R89). -/
def execLdyAbs (addr : Word) (s : State) : Result := loadY (.mem (.abs addr)) s

/-- LDY, absolute,X (R112, mode R90). -/
def execLdyAbsx (addr : Word) (s : State) : Result := loadY (.mem (.absx addr)) s

/-- STA, zero page (R113, mode R86). -/
def execStaZp (zp : Byte) (s : State) : Result := storeByte s.a (.zp zp) s

/-- STA, zero page,X (R113, mode R87). -/
def execStaZpx (zp : Byte) (s : State) : Result := storeByte s.a (.zpx zp) s

/-- STA, absolute (R113, mode R89). -/
def execStaAbs (addr : Word) (s : State) : Result := storeByte s.a (.abs addr) s

/-- STA, absolute,X (R113, mode R90). -/
def execStaAbsx (addr : Word) (s : State) : Result := storeByte s.a (.absx addr) s

/-- STA, absolute,Y (R113, mode R91). -/
def execStaAbsy (addr : Word) (s : State) : Result := storeByte s.a (.absy addr) s

/-- STA, (zp,X) (R113, mode R93). -/
def execStaIndx (zp : Byte) (s : State) : Result := storeByte s.a (.indx zp) s

/-- STA, (zp),Y (R113, mode R94). -/
def execStaIndy (zp : Byte) (s : State) : Result := storeByte s.a (.indy zp) s

/-- STX, zero page (R114, mode R86). -/
def execStxZp (zp : Byte) (s : State) : Result := storeByte s.x (.zp zp) s

/-- STX, zero page,Y (R114, mode R88). -/
def execStxZpy (zp : Byte) (s : State) : Result := storeByte s.x (.zpy zp) s

/-- STX, absolute (R114, mode R89). -/
def execStxAbs (addr : Word) (s : State) : Result := storeByte s.x (.abs addr) s

/-- STY, zero page (R115, mode R86). -/
def execStyZp (zp : Byte) (s : State) : Result := storeByte s.y (.zp zp) s

/-- STY, zero page,X (R115, mode R87). -/
def execStyZpx (zp : Byte) (s : State) : Result := storeByte s.y (.zpx zp) s

/-- STY, absolute (R115, mode R89). -/
def execStyAbs (addr : Word) (s : State) : Result := storeByte s.y (.abs addr) s

/-- TAX (R116, mode R83). -/
def execTax (s : State) : Result := .next ((s.setX s.a).setSZ s.a)

/-- TAY (R117, mode R83). -/
def execTay (s : State) : Result := .next ((s.setY s.a).setSZ s.a)

/-- TXA (R118, mode R83). -/
def execTxa (s : State) : Result := .next ((s.setA s.x).setSZ s.x)

/-- TYA (R119, mode R83). -/
def execTya (s : State) : Result := .next ((s.setA s.y).setSZ s.y)

/-- TSX (R120, mode R83). -/
def execTsx (s : State) : Result := .next ((s.setX s.sp).setSZ s.sp)

/-- TXS (R121, mode R83). -/
def execTxs (s : State) : Result := .next (s.setSp s.x)

end Sys2Proof.Machine
end

