-- ==== Sys2Proof/Machine/LogicArith.lean ====
section
/-! DEFINITION. Accumulator logic and arithmetic (spec/43_logic_arith.md R140 to R147). -/

namespace Sys2Proof.Machine

/-- Replace A by a bitwise operation of A and the operand, set Z and N from the result (R140 to R142). -/
def logicA (f : Byte → Byte → Byte) (src : Src) (s : State) : Result :=
  let r := f s.a (src.value s)
  .next (((s.consume src.operandBytes).setA r).setSZ r)

/-- BIT's tests: Z from the and with A, N and V from the operand (R145). -/
def bitTest (src : Src) (s : State) : Result :=
  let v := src.value s
  let t := (s.consume src.operandBytes).setFlag .z (s.a &&& v = 0x00#8)
  .next ((t.setFlag .n (v.getLsbD 7)).setFlag .v (v.getLsbD 6))

/-- Write back a sum or difference: C, V, A, then Z and N from the new A (R143, R144). -/
def State.putArith (s : State) (r : ArithResult) : State :=
  (((s.setFlag .c r.carry).setFlag .v r.overflow).setA r.value).setSZ r.value

/-- Write back the open values of A, C, V, Z and N (R146). -/
def State.putDecimal (s : State) (r : DecimalResult) : State :=
  ((((s.setA r.a).setFlag .c r.c).setFlag .v r.v).setFlag .z r.z).setFlag .n r.n

/-- ADC or SBC: `binary` is the computation while D = 0; while D = 1 the operand is still fetched and A, C, V, Z, N take
free values (R146, log entry 5). -/
def arithA (op : ArithOp) (binary : Byte → Byte → Bool → ArithResult) (src : Src) (s : State) : Result :=
  let m := src.value s
  let t := s.consume src.operandBytes
  if s.decimalMode then .next (t.putDecimal (Config.decimalArith s.draws op s.a m s.carry))
  else .next (t.putArith (binary s.a m s.carry))

/-- AND, immediate (R140, mode R85). -/
def execAndImm (imm : Byte) (s : State) : Result := logicA (· &&& ·) (.imm imm) s

/-- AND, zero page (R140, mode R86). -/
def execAndZp (zp : Byte) (s : State) : Result := logicA (· &&& ·) (.mem (.zp zp)) s

/-- AND, zero page,X (R140, mode R87). -/
def execAndZpx (zp : Byte) (s : State) : Result := logicA (· &&& ·) (.mem (.zpx zp)) s

/-- AND, absolute (R140, mode R89). -/
def execAndAbs (addr : Word) (s : State) : Result := logicA (· &&& ·) (.mem (.abs addr)) s

/-- AND, absolute,X (R140, mode R90). -/
def execAndAbsx (addr : Word) (s : State) : Result := logicA (· &&& ·) (.mem (.absx addr)) s

/-- AND, absolute,Y (R140, mode R91). -/
def execAndAbsy (addr : Word) (s : State) : Result := logicA (· &&& ·) (.mem (.absy addr)) s

/-- AND, (zp,X) (R140, mode R93). -/
def execAndIndx (zp : Byte) (s : State) : Result := logicA (· &&& ·) (.mem (.indx zp)) s

/-- AND, (zp),Y (R140, mode R94). -/
def execAndIndy (zp : Byte) (s : State) : Result := logicA (· &&& ·) (.mem (.indy zp)) s

/-- ORA, immediate (R141, mode R85). -/
def execOraImm (imm : Byte) (s : State) : Result := logicA (· ||| ·) (.imm imm) s

/-- ORA, zero page (R141, mode R86). -/
def execOraZp (zp : Byte) (s : State) : Result := logicA (· ||| ·) (.mem (.zp zp)) s

/-- ORA, zero page,X (R141, mode R87). -/
def execOraZpx (zp : Byte) (s : State) : Result := logicA (· ||| ·) (.mem (.zpx zp)) s

/-- ORA, absolute (R141, mode R89). -/
def execOraAbs (addr : Word) (s : State) : Result := logicA (· ||| ·) (.mem (.abs addr)) s

/-- ORA, absolute,X (R141, mode R90). -/
def execOraAbsx (addr : Word) (s : State) : Result := logicA (· ||| ·) (.mem (.absx addr)) s

/-- ORA, absolute,Y (R141, mode R91). -/
def execOraAbsy (addr : Word) (s : State) : Result := logicA (· ||| ·) (.mem (.absy addr)) s

/-- ORA, (zp,X) (R141, mode R93). -/
def execOraIndx (zp : Byte) (s : State) : Result := logicA (· ||| ·) (.mem (.indx zp)) s

/-- ORA, (zp),Y (R141, mode R94). -/
def execOraIndy (zp : Byte) (s : State) : Result := logicA (· ||| ·) (.mem (.indy zp)) s

/-- EOR, immediate (R142, mode R85). -/
def execEorImm (imm : Byte) (s : State) : Result := logicA (· ^^^ ·) (.imm imm) s

/-- EOR, zero page (R142, mode R86). -/
def execEorZp (zp : Byte) (s : State) : Result := logicA (· ^^^ ·) (.mem (.zp zp)) s

/-- EOR, zero page,X (R142, mode R87). -/
def execEorZpx (zp : Byte) (s : State) : Result := logicA (· ^^^ ·) (.mem (.zpx zp)) s

/-- EOR, absolute (R142, mode R89). -/
def execEorAbs (addr : Word) (s : State) : Result := logicA (· ^^^ ·) (.mem (.abs addr)) s

/-- EOR, absolute,X (R142, mode R90). -/
def execEorAbsx (addr : Word) (s : State) : Result := logicA (· ^^^ ·) (.mem (.absx addr)) s

/-- EOR, absolute,Y (R142, mode R91). -/
def execEorAbsy (addr : Word) (s : State) : Result := logicA (· ^^^ ·) (.mem (.absy addr)) s

/-- EOR, (zp,X) (R142, mode R93). -/
def execEorIndx (zp : Byte) (s : State) : Result := logicA (· ^^^ ·) (.mem (.indx zp)) s

/-- EOR, (zp),Y (R142, mode R94). -/
def execEorIndy (zp : Byte) (s : State) : Result := logicA (· ^^^ ·) (.mem (.indy zp)) s

/-- ADC, immediate (R143, mode R85). -/
def execAdcImm (imm : Byte) (s : State) : Result := arithA .adc adcResult (.imm imm) s

/-- ADC, zero page (R143, mode R86). -/
def execAdcZp (zp : Byte) (s : State) : Result := arithA .adc adcResult (.mem (.zp zp)) s

/-- ADC, zero page,X (R143, mode R87). -/
def execAdcZpx (zp : Byte) (s : State) : Result := arithA .adc adcResult (.mem (.zpx zp)) s

/-- ADC, absolute (R143, mode R89). -/
def execAdcAbs (addr : Word) (s : State) : Result := arithA .adc adcResult (.mem (.abs addr)) s

/-- ADC, absolute,X (R143, mode R90). -/
def execAdcAbsx (addr : Word) (s : State) : Result := arithA .adc adcResult (.mem (.absx addr)) s

/-- ADC, absolute,Y (R143, mode R91). -/
def execAdcAbsy (addr : Word) (s : State) : Result := arithA .adc adcResult (.mem (.absy addr)) s

/-- ADC, (zp,X) (R143, mode R93). -/
def execAdcIndx (zp : Byte) (s : State) : Result := arithA .adc adcResult (.mem (.indx zp)) s

/-- ADC, (zp),Y (R143, mode R94). -/
def execAdcIndy (zp : Byte) (s : State) : Result := arithA .adc adcResult (.mem (.indy zp)) s

/-- SBC, immediate (R144, mode R85). -/
def execSbcImm (imm : Byte) (s : State) : Result := arithA .sbc sbcResult (.imm imm) s

/-- SBC, zero page (R144, mode R86). -/
def execSbcZp (zp : Byte) (s : State) : Result := arithA .sbc sbcResult (.mem (.zp zp)) s

/-- SBC, zero page,X (R144, mode R87). -/
def execSbcZpx (zp : Byte) (s : State) : Result := arithA .sbc sbcResult (.mem (.zpx zp)) s

/-- SBC, absolute (R144, mode R89). -/
def execSbcAbs (addr : Word) (s : State) : Result := arithA .sbc sbcResult (.mem (.abs addr)) s

/-- SBC, absolute,X (R144, mode R90). -/
def execSbcAbsx (addr : Word) (s : State) : Result := arithA .sbc sbcResult (.mem (.absx addr)) s

/-- SBC, absolute,Y (R144, mode R91). -/
def execSbcAbsy (addr : Word) (s : State) : Result := arithA .sbc sbcResult (.mem (.absy addr)) s

/-- SBC, (zp,X) (R144, mode R93). -/
def execSbcIndx (zp : Byte) (s : State) : Result := arithA .sbc sbcResult (.mem (.indx zp)) s

/-- SBC, (zp),Y (R144, mode R94). -/
def execSbcIndy (zp : Byte) (s : State) : Result := arithA .sbc sbcResult (.mem (.indy zp)) s

/-- BIT, zero page (R145, mode R86). -/
def execBitZp (zp : Byte) (s : State) : Result := bitTest (.mem (.zp zp)) s

/-- BIT, absolute (R145, mode R89). -/
def execBitAbs (addr : Word) (s : State) : Result := bitTest (.mem (.abs addr)) s

end Sys2Proof.Machine
end

