-- ==== Sys2Proof/Machine/Shift.lean ====
section
/-! DEFINITION. Shifts and rotates (spec/44_shift_rotate.md R150 to R153). -/

namespace Sys2Proof.Machine

/-- The family's template: read the operand, C from the bit shifted out, write the result back, Z and N from it. -/
def shiftByte (f : Byte → Bool → ShiftResult) (target : ShiftTarget) (s : State) : Result :=
  match target with
  | .acc =>
    let r := f s.a s.carry
    .next (((s.setFlag .c r.carry).setA r.value).setSZ r.value)
  | .mem m =>
    let e := m.ea s
    let r := f (s.read e) s.carry
    .next ((((s.consume m.operandBytes).setFlag .c r.carry).write e r.value).setSZ r.value)

/-- ASL, accumulator (R150, mode R84). -/
def execAslAcc (s : State) : Result := shiftByte aslResult .acc s

/-- ASL, zero page (R150, mode R86). -/
def execAslZp (zp : Byte) (s : State) : Result := shiftByte aslResult (.mem (.zp zp)) s

/-- ASL, zero page,X (R150, mode R87). -/
def execAslZpx (zp : Byte) (s : State) : Result := shiftByte aslResult (.mem (.zpx zp)) s

/-- ASL, absolute (R150, mode R89). -/
def execAslAbs (addr : Word) (s : State) : Result := shiftByte aslResult (.mem (.abs addr)) s

/-- ASL, absolute,X (R150, mode R90). -/
def execAslAbsx (addr : Word) (s : State) : Result := shiftByte aslResult (.mem (.absx addr)) s

/-- LSR, accumulator (R151, mode R84). -/
def execLsrAcc (s : State) : Result := shiftByte lsrResult .acc s

/-- LSR, zero page (R151, mode R86). -/
def execLsrZp (zp : Byte) (s : State) : Result := shiftByte lsrResult (.mem (.zp zp)) s

/-- LSR, zero page,X (R151, mode R87). -/
def execLsrZpx (zp : Byte) (s : State) : Result := shiftByte lsrResult (.mem (.zpx zp)) s

/-- LSR, absolute (R151, mode R89). -/
def execLsrAbs (addr : Word) (s : State) : Result := shiftByte lsrResult (.mem (.abs addr)) s

/-- LSR, absolute,X (R151, mode R90). -/
def execLsrAbsx (addr : Word) (s : State) : Result := shiftByte lsrResult (.mem (.absx addr)) s

/-- ROL, accumulator (R152, mode R84). -/
def execRolAcc (s : State) : Result := shiftByte rolResult .acc s

/-- ROL, zero page (R152, mode R86). -/
def execRolZp (zp : Byte) (s : State) : Result := shiftByte rolResult (.mem (.zp zp)) s

/-- ROL, zero page,X (R152, mode R87). -/
def execRolZpx (zp : Byte) (s : State) : Result := shiftByte rolResult (.mem (.zpx zp)) s

/-- ROL, absolute (R152, mode R89). -/
def execRolAbs (addr : Word) (s : State) : Result := shiftByte rolResult (.mem (.abs addr)) s

/-- ROL, absolute,X (R152, mode R90). -/
def execRolAbsx (addr : Word) (s : State) : Result := shiftByte rolResult (.mem (.absx addr)) s

/-- ROR, accumulator (R153, mode R84). -/
def execRorAcc (s : State) : Result := shiftByte rorResult .acc s

/-- ROR, zero page (R153, mode R86). -/
def execRorZp (zp : Byte) (s : State) : Result := shiftByte rorResult (.mem (.zp zp)) s

/-- ROR, zero page,X (R153, mode R87). -/
def execRorZpx (zp : Byte) (s : State) : Result := shiftByte rorResult (.mem (.zpx zp)) s

/-- ROR, absolute (R153, mode R89). -/
def execRorAbs (addr : Word) (s : State) : Result := shiftByte rorResult (.mem (.abs addr)) s

/-- ROR, absolute,X (R153, mode R90). -/
def execRorAbsx (addr : Word) (s : State) : Result := shiftByte rorResult (.mem (.absx addr)) s

end Sys2Proof.Machine
end

