-- ==== Sys2Proof/Machine/StackFlag.lean ====
section
/-! DEFINITION. Stack, flag, no-op and stop instructions (spec/47_stack_flag_misc.md R190 to R199). -/

namespace Sys2Proof.Machine

/-- PHA (R190, mode R83). -/
def execPha (s : State) : Result := .next (s.push s.a)

/-- PLA (R191, mode R83). -/
def execPla (s : State) : Result := .next ((s.popState.setA s.popValue).setSZ s.popValue)

/-- PHP (R192, mode R83). -/
def execPhp (s : State) : Result := .next (s.push s.p)

/-- CLC (R193, mode R83). -/
def execClc (s : State) : Result := .next s.clearCarry

/-- SEC (R194, mode R83). -/
def execSec (s : State) : Result := .next s.setCarry

/-- CLV (R195, mode R83). -/
def execClv (s : State) : Result := .next s.clearOverflow

/-- CLD (R196, mode R83). -/
def execCld (s : State) : Result := .next (s.setFlag .d false)

/-- SED (R197, mode R83). -/
def execSed (s : State) : Result := .next (s.setFlag .d true)

/-- NOP (R198, mode R83). -/
def execNop (s : State) : Result := .next s

/-- BRK (R199, mode R83). -/
def execBrk (s : State) : Result := .next s.requestStop

end Sys2Proof.Machine
end

