-- ==== Sys2Proof/Machine/Dispatch.lean ====
section
/-! DEFINITION. One arm per instruction: which meaning it has. -/

namespace Sys2Proof.Machine

def exec (i : Instr) (s : State) : Host.Outcome State Fault Refusal :=
  match i with
  -- LDA (R110)
  | .ldaImm imm => Sys2Proof.Machine.execLdaImm imm s
  | .ldaZp zp => Sys2Proof.Machine.execLdaZp zp s
  | .ldaZpx zp => Sys2Proof.Machine.execLdaZpx zp s
  | .ldaAbs addr => Sys2Proof.Machine.execLdaAbs addr s
  | .ldaAbsx addr => Sys2Proof.Machine.execLdaAbsx addr s
  | .ldaAbsy addr => Sys2Proof.Machine.execLdaAbsy addr s
  | .ldaIndx zp => Sys2Proof.Machine.execLdaIndx zp s
  | .ldaIndy zp => Sys2Proof.Machine.execLdaIndy zp s
  -- LDX (R111)
  | .ldxImm imm => Sys2Proof.Machine.execLdxImm imm s
  | .ldxZp zp => Sys2Proof.Machine.execLdxZp zp s
  | .ldxZpy zp => Sys2Proof.Machine.execLdxZpy zp s
  | .ldxAbs addr => Sys2Proof.Machine.execLdxAbs addr s
  | .ldxAbsy addr => Sys2Proof.Machine.execLdxAbsy addr s
  -- LDY (R112)
  | .ldyImm imm => Sys2Proof.Machine.execLdyImm imm s
  | .ldyZp zp => Sys2Proof.Machine.execLdyZp zp s
  | .ldyZpx zp => Sys2Proof.Machine.execLdyZpx zp s
  | .ldyAbs addr => Sys2Proof.Machine.execLdyAbs addr s
  | .ldyAbsx addr => Sys2Proof.Machine.execLdyAbsx addr s
  -- STA (R113)
  | .staZp zp => Sys2Proof.Machine.execStaZp zp s
  | .staZpx zp => Sys2Proof.Machine.execStaZpx zp s
  | .staAbs addr => Sys2Proof.Machine.execStaAbs addr s
  | .staAbsx addr => Sys2Proof.Machine.execStaAbsx addr s
  | .staAbsy addr => Sys2Proof.Machine.execStaAbsy addr s
  | .staIndx zp => Sys2Proof.Machine.execStaIndx zp s
  | .staIndy zp => Sys2Proof.Machine.execStaIndy zp s
  -- STX (R114)
  | .stxZp zp => Sys2Proof.Machine.execStxZp zp s
  | .stxZpy zp => Sys2Proof.Machine.execStxZpy zp s
  | .stxAbs addr => Sys2Proof.Machine.execStxAbs addr s
  -- STY (R115)
  | .styZp zp => Sys2Proof.Machine.execStyZp zp s
  | .styZpx zp => Sys2Proof.Machine.execStyZpx zp s
  | .styAbs addr => Sys2Proof.Machine.execStyAbs addr s
  -- TAX (R116)
  | .tax => Sys2Proof.Machine.execTax s
  -- TAY (R117)
  | .tay => Sys2Proof.Machine.execTay s
  -- TXA (R118)
  | .txa => Sys2Proof.Machine.execTxa s
  -- TYA (R119)
  | .tya => Sys2Proof.Machine.execTya s
  -- TSX (R120)
  | .tsx => Sys2Proof.Machine.execTsx s
  -- TXS (R121)
  | .txs => Sys2Proof.Machine.execTxs s
  -- INC (R130)
  | .incZp zp => Sys2Proof.Machine.execIncZp zp s
  | .incZpx zp => Sys2Proof.Machine.execIncZpx zp s
  | .incAbs addr => Sys2Proof.Machine.execIncAbs addr s
  | .incAbsx addr => Sys2Proof.Machine.execIncAbsx addr s
  -- DEC (R131)
  | .decZp zp => Sys2Proof.Machine.execDecZp zp s
  | .decZpx zp => Sys2Proof.Machine.execDecZpx zp s
  | .decAbs addr => Sys2Proof.Machine.execDecAbs addr s
  | .decAbsx addr => Sys2Proof.Machine.execDecAbsx addr s
  -- INX (R132)
  | .inx => Sys2Proof.Machine.execInx s
  -- INY (R133)
  | .iny => Sys2Proof.Machine.execIny s
  -- DEX (R134)
  | .dex => Sys2Proof.Machine.execDex s
  -- DEY (R135)
  | .dey => Sys2Proof.Machine.execDey s
  -- AND (R140)
  | .andImm imm => Sys2Proof.Machine.execAndImm imm s
  | .andZp zp => Sys2Proof.Machine.execAndZp zp s
  | .andZpx zp => Sys2Proof.Machine.execAndZpx zp s
  | .andAbs addr => Sys2Proof.Machine.execAndAbs addr s
  | .andAbsx addr => Sys2Proof.Machine.execAndAbsx addr s
  | .andAbsy addr => Sys2Proof.Machine.execAndAbsy addr s
  | .andIndx zp => Sys2Proof.Machine.execAndIndx zp s
  | .andIndy zp => Sys2Proof.Machine.execAndIndy zp s
  -- ORA (R141)
  | .oraImm imm => Sys2Proof.Machine.execOraImm imm s
  | .oraZp zp => Sys2Proof.Machine.execOraZp zp s
  | .oraZpx zp => Sys2Proof.Machine.execOraZpx zp s
  | .oraAbs addr => Sys2Proof.Machine.execOraAbs addr s
  | .oraAbsx addr => Sys2Proof.Machine.execOraAbsx addr s
  | .oraAbsy addr => Sys2Proof.Machine.execOraAbsy addr s
  | .oraIndx zp => Sys2Proof.Machine.execOraIndx zp s
  | .oraIndy zp => Sys2Proof.Machine.execOraIndy zp s
  -- EOR (R142)
  | .eorImm imm => Sys2Proof.Machine.execEorImm imm s
  | .eorZp zp => Sys2Proof.Machine.execEorZp zp s
  | .eorZpx zp => Sys2Proof.Machine.execEorZpx zp s
  | .eorAbs addr => Sys2Proof.Machine.execEorAbs addr s
  | .eorAbsx addr => Sys2Proof.Machine.execEorAbsx addr s
  | .eorAbsy addr => Sys2Proof.Machine.execEorAbsy addr s
  | .eorIndx zp => Sys2Proof.Machine.execEorIndx zp s
  | .eorIndy zp => Sys2Proof.Machine.execEorIndy zp s
  -- ADC (R143)
  | .adcImm imm => Sys2Proof.Machine.execAdcImm imm s
  | .adcZp zp => Sys2Proof.Machine.execAdcZp zp s
  | .adcZpx zp => Sys2Proof.Machine.execAdcZpx zp s
  | .adcAbs addr => Sys2Proof.Machine.execAdcAbs addr s
  | .adcAbsx addr => Sys2Proof.Machine.execAdcAbsx addr s
  | .adcAbsy addr => Sys2Proof.Machine.execAdcAbsy addr s
  | .adcIndx zp => Sys2Proof.Machine.execAdcIndx zp s
  | .adcIndy zp => Sys2Proof.Machine.execAdcIndy zp s
  -- SBC (R144)
  | .sbcImm imm => Sys2Proof.Machine.execSbcImm imm s
  | .sbcZp zp => Sys2Proof.Machine.execSbcZp zp s
  | .sbcZpx zp => Sys2Proof.Machine.execSbcZpx zp s
  | .sbcAbs addr => Sys2Proof.Machine.execSbcAbs addr s
  | .sbcAbsx addr => Sys2Proof.Machine.execSbcAbsx addr s
  | .sbcAbsy addr => Sys2Proof.Machine.execSbcAbsy addr s
  | .sbcIndx zp => Sys2Proof.Machine.execSbcIndx zp s
  | .sbcIndy zp => Sys2Proof.Machine.execSbcIndy zp s
  -- BIT (R145)
  | .bitZp zp => Sys2Proof.Machine.execBitZp zp s
  | .bitAbs addr => Sys2Proof.Machine.execBitAbs addr s
  -- ASL (R150)
  | .aslAcc => Sys2Proof.Machine.execAslAcc s
  | .aslZp zp => Sys2Proof.Machine.execAslZp zp s
  | .aslZpx zp => Sys2Proof.Machine.execAslZpx zp s
  | .aslAbs addr => Sys2Proof.Machine.execAslAbs addr s
  | .aslAbsx addr => Sys2Proof.Machine.execAslAbsx addr s
  -- LSR (R151)
  | .lsrAcc => Sys2Proof.Machine.execLsrAcc s
  | .lsrZp zp => Sys2Proof.Machine.execLsrZp zp s
  | .lsrZpx zp => Sys2Proof.Machine.execLsrZpx zp s
  | .lsrAbs addr => Sys2Proof.Machine.execLsrAbs addr s
  | .lsrAbsx addr => Sys2Proof.Machine.execLsrAbsx addr s
  -- ROL (R152)
  | .rolAcc => Sys2Proof.Machine.execRolAcc s
  | .rolZp zp => Sys2Proof.Machine.execRolZp zp s
  | .rolZpx zp => Sys2Proof.Machine.execRolZpx zp s
  | .rolAbs addr => Sys2Proof.Machine.execRolAbs addr s
  | .rolAbsx addr => Sys2Proof.Machine.execRolAbsx addr s
  -- ROR (R153)
  | .rorAcc => Sys2Proof.Machine.execRorAcc s
  | .rorZp zp => Sys2Proof.Machine.execRorZp zp s
  | .rorZpx zp => Sys2Proof.Machine.execRorZpx zp s
  | .rorAbs addr => Sys2Proof.Machine.execRorAbs addr s
  | .rorAbsx addr => Sys2Proof.Machine.execRorAbsx addr s
  -- CMP (R160)
  | .cmpImm imm => Sys2Proof.Machine.execCmpImm imm s
  | .cmpZp zp => Sys2Proof.Machine.execCmpZp zp s
  | .cmpZpx zp => Sys2Proof.Machine.execCmpZpx zp s
  | .cmpAbs addr => Sys2Proof.Machine.execCmpAbs addr s
  | .cmpAbsx addr => Sys2Proof.Machine.execCmpAbsx addr s
  | .cmpAbsy addr => Sys2Proof.Machine.execCmpAbsy addr s
  | .cmpIndx zp => Sys2Proof.Machine.execCmpIndx zp s
  | .cmpIndy zp => Sys2Proof.Machine.execCmpIndy zp s
  -- CPX (R161)
  | .cpxImm imm => Sys2Proof.Machine.execCpxImm imm s
  | .cpxZp zp => Sys2Proof.Machine.execCpxZp zp s
  | .cpxAbs addr => Sys2Proof.Machine.execCpxAbs addr s
  -- CPY (R162)
  | .cpyImm imm => Sys2Proof.Machine.execCpyImm imm s
  | .cpyZp zp => Sys2Proof.Machine.execCpyZp zp s
  | .cpyAbs addr => Sys2Proof.Machine.execCpyAbs addr s
  -- JMP (R170)
  | .jmpAbs addr => Sys2Proof.Machine.execJmpAbs addr s
  | .jmpInd ptr => Sys2Proof.Machine.execJmpInd ptr s
  -- JSR (R171)
  | .jsr addr => Sys2Proof.Machine.execJsr addr s
  -- RTS (R172)
  | .rts => Sys2Proof.Machine.execRts s
  -- BCC (R173)
  | .bcc rel => Sys2Proof.Machine.execBcc rel s
  -- BCS (R174)
  | .bcs rel => Sys2Proof.Machine.execBcs rel s
  -- BEQ (R175)
  | .beq rel => Sys2Proof.Machine.execBeq rel s
  -- BNE (R176)
  | .bne rel => Sys2Proof.Machine.execBne rel s
  -- BMI (R177)
  | .bmi rel => Sys2Proof.Machine.execBmi rel s
  -- BPL (R178)
  | .bpl rel => Sys2Proof.Machine.execBpl rel s
  -- BVC (R179)
  | .bvc rel => Sys2Proof.Machine.execBvc rel s
  -- BVS (R180)
  | .bvs rel => Sys2Proof.Machine.execBvs rel s
  -- PHA (R190)
  | .pha => Sys2Proof.Machine.execPha s
  -- PLA (R191)
  | .pla => Sys2Proof.Machine.execPla s
  -- PHP (R192)
  | .php => Sys2Proof.Machine.execPhp s
  -- CLC (R193)
  | .clc => Sys2Proof.Machine.execClc s
  -- SEC (R194)
  | .sec => Sys2Proof.Machine.execSec s
  -- CLV (R195)
  | .clv => Sys2Proof.Machine.execClv s
  -- CLD (R196)
  | .cld => Sys2Proof.Machine.execCld s
  -- SED (R197)
  | .sed => Sys2Proof.Machine.execSed s
  -- NOP (R198)
  | .nop => Sys2Proof.Machine.execNop s
  -- BRK (R199)
  | .brk => Sys2Proof.Machine.execBrk s

end Sys2Proof.Machine
end

