-- ==== Sys2Proof/Machine/Engine.lean ====
section
/-! DEFINITION. The Execution Engine (spec/40_engine_and_primitives.md R70, R71, R98 to R101): the random byte, fetching an
instruction's bytes, one execution step, when a step is taken. -/

namespace Sys2Proof.Machine

/-- Point 1 of a step: the byte drawn for this step is written to M[0x00FE] (R70, R39). -/
def State.writeRandom (s : State) (r : Byte) : State := s.write Config.rndAddr r

/-- The three bytes at PC, addresses wrapping at 16 bits: the longest instruction (R50, R51). Reading the operand bytes
before the opcode is looked up changes nothing: a read has no side effect (R31; log entry 13). -/
def State.fetchBytes (s : State) : List Byte :=
  let p0 := s.popByte
  let p1 := p0.2.popByte
  let p2 := p1.2.popByte
  [p0.1, p1.1, p2.1]

/-- Point 5 of a step, after an instruction that went on (R70, R71). -/
def finishStep : Result → Result
  | .next t => .next t.haltCheck
  | .fault f => .fault f
  | .refused r => .refused r

/-- A byte with no entry in the baseline table (R55, R58): bound in EXT_TABLE, the step is refused; otherwise
UnknownOpcode, with the address the byte was fetched from, in the state after the one-byte opcode fetch (R211). -/
def State.absentOpcode (s : State) : Result :=
  let p := s.popByte
  if s.extTable.contains p.1 then .refused (.extensionHandler p.1)
  else .next (p.2.takeFault (.unknownOpcode s.pc p.1))

/-- `Step(r)` after the random byte has been written (R70, points 2 to 5). -/
def State.runInstruction (s : State) : Result :=
  match decode s.fetchBytes with
  | .ok (i, _) => finishStep (exec i s.popByte.2)
  | .error _ => s.absentOpcode

/-- `Step(r)` (R70): `r` is the byte drawn from RND for this step. -/
def engineStep (r : Byte) (s : State) : Result := (s.writeRandom r).runInstruction

/-- A step with its byte drawn from RND (R222): the free value at the draw counter, which advances (log entries 1, 2). -/
def drawnStep (s : State) : Result := engineStep (Config.rnd s.draws) (s.setDraws (s.draws + 1))

/-- What a state with FAULT set answers: a fault outcome (R218). -/
def FaultRecord.outcome : FaultRecord → Fault
  | .unknownOpcode addr byte => .unknownOpcode addr byte
  | .outOfBounds addr byte => .outOfBounds addr byte

/-- The engine's own move, the pacing loop's (R101): a step is enabled iff RUN = Running, HOLD = Free and FAULT = none.
While Stopped or Held nothing changes (R101, R224, R229; log entry 7). -/
def pacedStep (s : State) : Result :=
  match s.faultLatch with
  | some f => .fault f.outcome
  | none =>
    match s.run, s.hold with
    | .running, .free => drawnStep s
    | _, _ => .next s

/-- Whether the cell 0x00FE is one of three bytes from an address (R39): a program placed there would not be fetched. -/
def meetsRandomCell (a : Word) : Bool :=
  a = Config.rndAddr || a + 1#16 = Config.rndAddr || a + 2#16 = Config.rndAddr

/-- The state with three bytes placed at PC. -/
def State.placeBytes (s : State) (b0 b1 b2 : Byte) : State :=
  ((s.write s.pc b0).write (s.pc + 1#16) b1).write (s.pc + 2#16) b2

/-- The state in which the engine's next move is a step, at a PC whose bytes the random byte does not overwrite: PC stays
unless 0x00FE would be one of the three bytes fetched, where it is the program origin (R39, R101). -/
def State.readyToFetch (s : State) : State :=
  let t := if meetsRandomCell s.pc then s.setPc Config.resetPc else s
  (((t.setRun .running).setHold .free).setFaultLatch none).setStopRequested false

end Sys2Proof.Machine
end

