-- ==== Sys2Proof/Machine/Step.lean ====
section
/-! DEFINITION. One step of the machine, and the state that holds a given instruction where the step fetches. -/

namespace Sys2Proof.Machine

/-- The engine's own move (spec/40_engine_and_primitives.md R101). -/
def step (s : State) : Host.Outcome State Fault Refusal := pacedStep s

/-- The state with the instruction whose bits are `w` (numbered as spec/opcode_table.json numbers them) stored where
`step` fetches, and the engine started (R98), so that the next step runs it (log entry 7). -/
def State.withFetchWord (s : State) (nbits w : Nat) : State :=
  match tableWordBytes nbits w with
  | [b0, b1, b2] => s.readyToFetch.placeBytes b0 b1 b2
  | _ => s.readyToFetch

end Sys2Proof.Machine
end

