-- ==== Sys2Proof/Machine/Command.lean ====
section
/-! DEFINITION. The host interface (spec/60_exceptions.md R230): every move of the host and the observer, when it is
allowed, its effect and its answer. A move lands between two steps (spec/00_scope.md R2). A move outside its condition is
refused by a name of its own (log entry 12). `construct` is `State.construct`. -/

namespace Sys2Proof.Machine

/-- The moves of R230. A host address or value is any integer (R212). -/
inductive HostMove where
  /-- `RESET` (R241). -/
  | reset
  /-- `START` (R98). -/
  | start
  /-- `STOP` at a step boundary (R99). -/
  | stop
  /-- `STOP` given while a step of the pacing loop is in flight: that step completes and its point 5 sees it (R99). -/
  | stopInFlight
  /-- `STEP`, the single-step entry point (R100). -/
  | step
  /-- `OBS_BEGIN` (R224). -/
  | obsBegin
  /-- `OBS_END` (R225). -/
  | obsEnd
  /-- `IRQ` (R216). -/
  | irq
  /-- Memory read, `get(address)`, by the host or the observer (R45, R212). -/
  | get (addr : Int)
  /-- Memory write, `set(address, value)`, by the host (R45, R212). -/
  | set (addr : Int) (value : Int)
  /-- `flags()` (R227). -/
  | flags
  /-- `addInstruction(opcodeByte, handler)` (R58); what the handler does is outside the spec. -/
  | bind (op : Byte)
  deriving DecidableEq, Repr

/-- What a move answers to whoever made it. -/
inductive Reply where
  | done
  | byte (v : Byte)
  | flagString (chars : List Char)
  /-- The answer to IRQ (R213, R216). -/
  | notImplemented
  /-- A host call with an address outside 0 to 65535 fails and changes nothing (R212). -/
  | outOfBounds (addr : Int)
  deriving DecidableEq, Repr

/-- What a move answers: the next state and the reply, or the model's refusal. -/
abbrev MoveResult := Host.Outcome (State × Reply) Fault Refusal

/-- A state change with the plain answer. -/
def MoveResult.ofResult : Result → MoveResult
  | .next t => .next (t, .done)
  | .fault f => .fault f
  | .refused r => .refused r

/-- `idle`: RUN = Stopped, or HOLD = Held (R230). -/
def State.idle (s : State) : Bool := s.run = .stopped || s.hold = .held

/-- A step of the pacing loop is enabled (R101). -/
def State.stepEnabled (s : State) : Bool := s.run = .running && s.hold = .free && s.faultLatch = none

/-- The 16-bit address that a host address is, if it lies in 0 to 65535 (R33, R212). -/
def hostAddr (addr : Int) : Option Word :=
  if 0 ≤ addr ∧ addr < Config.memCapacity then some (BitVec.ofInt 16 addr) else none

/-- RESET is allowed while Stopped (R244). -/
def moveReset (s : State) : MoveResult :=
  if s.run = .running then .refused .resetWhileRunning else .next (s.performReset, .done)

/-- START is allowed while FAULT = none and writes RUN alone (R98, R220). -/
def moveStart (s : State) : MoveResult :=
  if s.faultLatch.isSome then .refused .startWhileFaulted else .next (s.setRun .running, .done)

/-- STOP is always allowed (R99). -/
def moveStop (s : State) : MoveResult := .next (s.stopEngine, .done)

/-- STOP while a step is in flight (R99): the step runs to its end with the request pending. -/
def moveStopInFlight (s : State) : MoveResult :=
  if s.stepEnabled then .ofResult (drawnStep s.requestStop) else .refused .noStepInFlight

/-- STEP performs exactly one step whatever RUN is (R100); it is refused while FAULT is set or HOLD = Held. -/
def moveStep (s : State) : MoveResult :=
  if s.faultLatch.isSome then .refused .stepWhileFaulted
  else if s.hold = .held then .refused .stepWhileHeld
  else .ofResult (drawnStep s)

/-- OBS_BEGIN (R224). -/
def moveObsBegin (s : State) : MoveResult :=
  if s.hold = .held then .refused .beginWhileHeld else .next (s.setHold .held, .done)

/-- OBS_END (R225). -/
def moveObsEnd (s : State) : MoveResult :=
  if s.hold = .free then .refused .endWhileFree else .next (s.setHold .free, .done)

/-- IRQ is answered NotImplemented and changes nothing (R216). -/
def moveIrq (s : State) : MoveResult := .next (s, .notImplemented)

/-- A memory read by the host or the observer (R45, R212). -/
def moveGet (addr : Int) (s : State) : MoveResult :=
  if !s.idle then .refused .accessWhileRunning
  else match hostAddr addr with
    | none => .next (s, .outOfBounds addr)
    | some w => .next (s, .byte (s.read w))

/-- A memory write by the host (R45, R212): the value is reduced to 8 bits (R32). -/
def moveSet (addr value : Int) (s : State) : MoveResult :=
  if !s.idle then .refused .accessWhileRunning
  else match hostAddr addr with
    | none => .next (s, .outOfBounds addr)
    | some w => .next (s.write w (BitVec.ofInt 8 value), .done)

/-- The flags query (R227, allowed when idle by R230). -/
def moveFlags (s : State) : MoveResult :=
  if !s.idle then .refused .accessWhileRunning else .next (s, .flagString (flagChars s.p))

/-- Binding an opcode (R58, R230): before the first step, for a byte absent from the baseline table. -/
def moveBind (op : Byte) (s : State) : MoveResult :=
  if s.draws ≠ 0 then .refused .bindAfterFirstStep
  else if (lookupOpcode op).isSome then .refused (.bindBaselineOpcode op)
  else .next (s.setExtTable (op :: s.extTable.filter (fun b => b ≠ op)), .done)

/-- A move of the host or the observer (R230). -/
def hostMove (m : HostMove) (s : State) : MoveResult :=
  match m with
  | .reset => moveReset s
  | .start => moveStart s
  | .stop => moveStop s
  | .stopInFlight => moveStopInFlight s
  | .step => moveStep s
  | .obsBegin => moveObsBegin s
  | .obsEnd => moveObsEnd s
  | .irq => moveIrq s
  | .get addr => moveGet addr s
  | .set addr value => moveSet addr value s
  | .flags => moveFlags s
  | .bind op => moveBind op s

/-- What can happen to the machine: the engine's own move, or a move of its environment (R223). -/
inductive Event where
  | engine
  | host (m : HostMove)
  deriving DecidableEq, Repr

/-- The state an event leaves, its answer dropped. -/
def State.after (s : State) : Event → Result
  | .engine => step s
  | .host m =>
    match hostMove m s with
    | .next (t, _) => .next t
    | .fault f => .fault f
    | .refused r => .refused r

/-- The state a sequence of events leaves, stopping at the first fault or refusal. -/
def State.afterAll (s : State) : List Event → Result
  | [] => .next s
  | e :: es =>
    match s.after e with
    | .next t => t.afterAll es
    | .fault f => .fault f
    | .refused r => .refused r

end Sys2Proof.Machine
end

