-- ==== Sys2Proof/Safety.lean ====
section
/-! DEFINITION. What a good state and a good run are, in the terms the statements use. -/

namespace Sys2Proof.Machine

/-- The bits of P that no instruction may change (spec/10_state.md R16): bits 5, 4 and 2. -/
def reservedMask : Byte := 0x34#8

/-- What holds of every reachable state. From the spec: the reserved bits of P read 1, 1, 0 (R16); a set FAULT means a
stopped engine (R211, R220); EXT_TABLE binds only bytes absent from the baseline (R58). The model's own choices, which no
rule states: memory is in its canonical form (log entries 3 and 4); no stop request is pending between two moves (log
entry 8); each byte is bound once (log entry 10). -/
structure State.Inv (s : State) : Prop where
  reserved : s.p &&& reservedMask = 0x30#8
  memory : s.mem.wf
  noRequest : s.stopRequested = false
  faultStopped : s.faultLatch ≠ none → s.run = .stopped
  extAbsent : ∀ b ∈ s.extTable, lookupOpcode b = none
  extOnce : s.extTable.Nodup

/-- The parts of the state, as the statements name what an instruction may change. -/
inductive Part where
  | a | x | y | sp | pc
  | flag (f : Flag)
  /-- The reserved bits of P. -/
  | reserved
  /-- One cell of memory. -/
  | cell (addr : Word)
  | run | stopRequest | fault | hold | extTable | stackWraps | draws
  deriving DecidableEq, Repr

/-- A part has the same value in two states; a cell, as memory reads it. -/
def Part.Same (q : Part) (s t : State) : Prop :=
  match q with
  | .a => t.a = s.a
  | .x => t.x = s.x
  | .y => t.y = s.y
  | .sp => t.sp = s.sp
  | .pc => t.pc = s.pc
  | .flag f => t.flag f = s.flag f
  | .reserved => t.p &&& reservedMask = s.p &&& reservedMask
  | .cell addr => t.read addr = s.read addr
  | .run => t.run = s.run
  | .stopRequest => t.stopRequested = s.stopRequested
  | .fault => t.faultLatch = s.faultLatch
  | .hold => t.hold = s.hold
  | .extTable => t.extTable = s.extTable
  | .stackWraps => t.stackWraps = s.stackWraps
  | .draws => t.draws = s.draws

/-- The frame: every part of the state but the listed ones is as before. Memory is covered cell by cell. -/
def KeepsAllBut (changed : List Part) (s t : State) : Prop := ∀ q, q ∉ changed → q.Same s t

/-- Z and N of a state are those of a byte (spec/40_engine_and_primitives.md R74, testable property). -/
def ShowsSZ (v : Byte) (t : State) : Prop :=
  (t.zero = true ↔ v = 0x00#8) ∧ (t.negative = true ↔ v &&& 0x80#8 ≠ 0x00#8)

/-- A run has ended normally (spec/70_reset_and_hazards.md R254). -/
def State.endedNormally (s : State) : Prop := s.run = .stopped ∧ s.faultLatch = none

/-- A state that some sequence of events reaches from construction over some canonical memory image. -/
def State.Reachable (s : State) : Prop :=
  ∃ (m : Memory) (es : List Event), m.wf ∧ (State.construct m).afterAll es = .next s

end Sys2Proof.Machine
end

