-- ==== Sys2Proof/Certificates/Slice0/Obligations.lean ====
section
/-! DEFINITION. The statements for the provers. Where a statement rests on a rule that spec/ marks as its own decision or
derivation, its basis in OBLIGATIONS.json is "derived"; its docstring names the decision. -/

namespace Sys2Proof.Forms

open Sys2Proof.Machine

/-! The forms that spec/30_encoding.md R54 gives each mnemonic with several addressing modes, beside the mode. -/

/-- LDA: modes IMM, ZP, ZPX, ABS, ABSX, ABSY, INDX, INDY (R110). -/
def lda (b : Byte) (w : Word) : List (Instr × Src) :=
  [ (.ldaImm b, .imm b), (.ldaZp b, .mem (.zp b)), (.ldaZpx b, .mem (.zpx b)),
    (.ldaAbs w, .mem (.abs w)), (.ldaAbsx w, .mem (.absx w)), (.ldaAbsy w, .mem (.absy w)),
    (.ldaIndx b, .mem (.indx b)), (.ldaIndy b, .mem (.indy b)) ]

/-- LDX: modes IMM, ZP, ZPY, ABS, ABSY (R111). -/
def ldx (b : Byte) (w : Word) : List (Instr × Src) :=
  [ (.ldxImm b, .imm b), (.ldxZp b, .mem (.zp b)), (.ldxZpy b, .mem (.zpy b)),
    (.ldxAbs w, .mem (.abs w)), (.ldxAbsy w, .mem (.absy w)) ]

/-- LDY: modes IMM, ZP, ZPX, ABS, ABSX (R112). -/
def ldy (b : Byte) (w : Word) : List (Instr × Src) :=
  [ (.ldyImm b, .imm b), (.ldyZp b, .mem (.zp b)), (.ldyZpx b, .mem (.zpx b)),
    (.ldyAbs w, .mem (.abs w)), (.ldyAbsx w, .mem (.absx w)) ]

/-- AND: modes IMM, ZP, ZPX, ABS, ABSX, ABSY, INDX, INDY (R140). -/
def and (b : Byte) (w : Word) : List (Instr × Src) :=
  [ (.andImm b, .imm b), (.andZp b, .mem (.zp b)), (.andZpx b, .mem (.zpx b)),
    (.andAbs w, .mem (.abs w)), (.andAbsx w, .mem (.absx w)), (.andAbsy w, .mem (.absy w)),
    (.andIndx b, .mem (.indx b)), (.andIndy b, .mem (.indy b)) ]

/-- ORA: modes IMM, ZP, ZPX, ABS, ABSX, ABSY, INDX, INDY (R141). -/
def ora (b : Byte) (w : Word) : List (Instr × Src) :=
  [ (.oraImm b, .imm b), (.oraZp b, .mem (.zp b)), (.oraZpx b, .mem (.zpx b)),
    (.oraAbs w, .mem (.abs w)), (.oraAbsx w, .mem (.absx w)), (.oraAbsy w, .mem (.absy w)),
    (.oraIndx b, .mem (.indx b)), (.oraIndy b, .mem (.indy b)) ]

/-- EOR: modes IMM, ZP, ZPX, ABS, ABSX, ABSY, INDX, INDY (R142). -/
def eor (b : Byte) (w : Word) : List (Instr × Src) :=
  [ (.eorImm b, .imm b), (.eorZp b, .mem (.zp b)), (.eorZpx b, .mem (.zpx b)),
    (.eorAbs w, .mem (.abs w)), (.eorAbsx w, .mem (.absx w)), (.eorAbsy w, .mem (.absy w)),
    (.eorIndx b, .mem (.indx b)), (.eorIndy b, .mem (.indy b)) ]

/-- ADC: modes IMM, ZP, ZPX, ABS, ABSX, ABSY, INDX, INDY (R143). -/
def adc (b : Byte) (w : Word) : List (Instr × Src) :=
  [ (.adcImm b, .imm b), (.adcZp b, .mem (.zp b)), (.adcZpx b, .mem (.zpx b)),
    (.adcAbs w, .mem (.abs w)), (.adcAbsx w, .mem (.absx w)), (.adcAbsy w, .mem (.absy w)),
    (.adcIndx b, .mem (.indx b)), (.adcIndy b, .mem (.indy b)) ]

/-- SBC: modes IMM, ZP, ZPX, ABS, ABSX, ABSY, INDX, INDY (R144). -/
def sbc (b : Byte) (w : Word) : List (Instr × Src) :=
  [ (.sbcImm b, .imm b), (.sbcZp b, .mem (.zp b)), (.sbcZpx b, .mem (.zpx b)),
    (.sbcAbs w, .mem (.abs w)), (.sbcAbsx w, .mem (.absx w)), (.sbcAbsy w, .mem (.absy w)),
    (.sbcIndx b, .mem (.indx b)), (.sbcIndy b, .mem (.indy b)) ]

/-- BIT: modes ZP, ABS (R145). -/
def bit (b : Byte) (w : Word) : List (Instr × Src) :=
  [ (.bitZp b, .mem (.zp b)), (.bitAbs w, .mem (.abs w)) ]

/-- CMP: modes IMM, ZP, ZPX, ABS, ABSX, ABSY, INDX, INDY (R160). -/
def cmp (b : Byte) (w : Word) : List (Instr × Src) :=
  [ (.cmpImm b, .imm b), (.cmpZp b, .mem (.zp b)), (.cmpZpx b, .mem (.zpx b)),
    (.cmpAbs w, .mem (.abs w)), (.cmpAbsx w, .mem (.absx w)), (.cmpAbsy w, .mem (.absy w)),
    (.cmpIndx b, .mem (.indx b)), (.cmpIndy b, .mem (.indy b)) ]

/-- CPX: modes IMM, ZP, ABS (R161). -/
def cpx (b : Byte) (w : Word) : List (Instr × Src) :=
  [ (.cpxImm b, .imm b), (.cpxZp b, .mem (.zp b)), (.cpxAbs w, .mem (.abs w)) ]

/-- CPY: modes IMM, ZP, ABS (R162). -/
def cpy (b : Byte) (w : Word) : List (Instr × Src) :=
  [ (.cpyImm b, .imm b), (.cpyZp b, .mem (.zp b)), (.cpyAbs w, .mem (.abs w)) ]

/-- STA: modes ZP, ZPX, ABS, ABSX, ABSY, INDX, INDY (R113). -/
def sta (b : Byte) (w : Word) : List (Instr × MemMode) :=
  [ (.staZp b, .zp b), (.staZpx b, .zpx b), (.staAbs w, .abs w),
    (.staAbsx w, .absx w), (.staAbsy w, .absy w), (.staIndx b, .indx b),
    (.staIndy b, .indy b) ]

/-- STX: modes ZP, ZPY, ABS (R114). -/
def stx (b : Byte) (w : Word) : List (Instr × MemMode) :=
  [ (.stxZp b, .zp b), (.stxZpy b, .zpy b), (.stxAbs w, .abs w) ]

/-- STY: modes ZP, ZPX, ABS (R115). -/
def sty (b : Byte) (w : Word) : List (Instr × MemMode) :=
  [ (.styZp b, .zp b), (.styZpx b, .zpx b), (.styAbs w, .abs w) ]

/-- INC: modes ZP, ZPX, ABS, ABSX (R130). -/
def inc (b : Byte) (w : Word) : List (Instr × MemMode) :=
  [ (.incZp b, .zp b), (.incZpx b, .zpx b), (.incAbs w, .abs w),
    (.incAbsx w, .absx w) ]

/-- DEC: modes ZP, ZPX, ABS, ABSX (R131). -/
def dec (b : Byte) (w : Word) : List (Instr × MemMode) :=
  [ (.decZp b, .zp b), (.decZpx b, .zpx b), (.decAbs w, .abs w),
    (.decAbsx w, .absx w) ]

/-- ASL: modes ACC, ZP, ZPX, ABS, ABSX (R150). -/
def asl (b : Byte) (w : Word) : List (Instr × ShiftTarget) :=
  [ (.aslAcc, .acc), (.aslZp b, .mem (.zp b)), (.aslZpx b, .mem (.zpx b)),
    (.aslAbs w, .mem (.abs w)), (.aslAbsx w, .mem (.absx w)) ]

/-- LSR: modes ACC, ZP, ZPX, ABS, ABSX (R151). -/
def lsr (b : Byte) (w : Word) : List (Instr × ShiftTarget) :=
  [ (.lsrAcc, .acc), (.lsrZp b, .mem (.zp b)), (.lsrZpx b, .mem (.zpx b)),
    (.lsrAbs w, .mem (.abs w)), (.lsrAbsx w, .mem (.absx w)) ]

/-- ROL: modes ACC, ZP, ZPX, ABS, ABSX (R152). -/
def rol (b : Byte) (w : Word) : List (Instr × ShiftTarget) :=
  [ (.rolAcc, .acc), (.rolZp b, .mem (.zp b)), (.rolZpx b, .mem (.zpx b)),
    (.rolAbs w, .mem (.abs w)), (.rolAbsx w, .mem (.absx w)) ]

/-- ROR: modes ACC, ZP, ZPX, ABS, ABSX (R153). -/
def ror (b : Byte) (w : Word) : List (Instr × ShiftTarget) :=
  [ (.rorAcc, .acc), (.rorZp b, .mem (.zp b)), (.rorZpx b, .mem (.zpx b)),
    (.rorAbs w, .mem (.abs w)), (.rorAbsx w, .mem (.absx w)) ]

/-- The memory forms among the forms of a shift or rotate. -/
def memoryShifts (forms : List (Instr × ShiftTarget)) : List (Instr × MemMode) :=
  forms.filterMap fun f => match f.2 with
    | .acc => none
    | .mem m => some (f.1, m)

/-- The eight branches, beside the condition each tests (R173 to R180). -/
def branches (b : Byte) (s : State) : List (Instr × Bool) :=
  [ (.bcc b, !s.carry), (.bcs b, s.carry), (.beq b, s.zero), (.bne b, !s.zero), (.bmi b, s.negative),
    (.bpl b, !s.negative), (.bvc b, !s.overflow), (.bvs b, s.overflow) ]

/-- The flag instructions, beside the flag and the value (R193 to R197). -/
def flagWrites : List (Instr × Flag × Bool) :=
  [ (.clc, .c, false), (.sec, .c, true), (.clv, .v, false), (.cld, .d, false), (.sed, .d, true) ]

/-- The 109 absent bytes as R55 lists them: every byte whose low nibble is 3, 7, B or F, and the bytes named one by one. -/
def absentByte (op : Byte) : Bool :=
  [3, 7, 0xB, 0xF].contains (op.toNat % 16) ||
    [ 0x02, 0x12, 0x22, 0x32, 0x42, 0x52, 0x62, 0x72, 0x82, 0x92, 0xB2, 0xC2, 0xD2, 0xE2, 0xF2,
      0x04, 0x14, 0x34, 0x44, 0x54, 0x64, 0x74, 0xD4, 0xF4, 0x0C, 0x1C, 0x3C, 0x5C, 0x7C, 0x9C, 0xDC, 0xFC,
      0x1A, 0x3A, 0x5A, 0x7A, 0xDA, 0xFA, 0x80, 0x89, 0x9E, 0x28, 0x40, 0x58, 0x78 ].contains op.toNat

/-- The instructions that write PC otherwise than by their length (R14). -/
def isTransfer : Instr → Bool
  | .jmpAbs _ | .jmpInd _ | .jsr _ | .rts => true
  | .bcc _ | .bcs _ | .beq _ | .bne _ | .bmi _ | .bpl _ | .bvc _ | .bvs _ => true
  | _ => false

/-- The instructions that write V: CLV, ADC, SBC, BIT (R20). -/
def writesV : Instr → Bool
  | .clv | .bitZp _ | .bitAbs _ => true
  | .adcImm _ | .adcZp _ | .adcZpx _ | .adcAbs _ | .adcAbsx _ | .adcAbsy _ | .adcIndx _ | .adcIndy _ => true
  | .sbcImm _ | .sbcZp _ | .sbcZpx _ | .sbcAbs _ | .sbcAbsx _ | .sbcAbsy _ | .sbcIndx _ | .sbcIndy _ => true
  | _ => false

/-- The instructions that write no flag: STA, STX, STY, TXS, PHA, PHP, JMP, JSR, RTS, the branches, NOP, BRK
(spec/10_state.md, end of section 3). -/
def writesNoFlag : Instr → Bool
  | .staZp _ | .staZpx _ | .staAbs _ | .staAbsx _ | .staAbsy _ | .staIndx _ | .staIndy _ => true
  | .stxZp _ | .stxZpy _ | .stxAbs _ | .styZp _ | .styZpx _ | .styAbs _ => true
  | .txs | .pha | .php | .jmpAbs _ | .jmpInd _ | .jsr _ | .rts | .nop | .brk => true
  | .bcc _ | .bcs _ | .beq _ | .bne _ | .bmi _ | .bpl _ | .bvc _ | .bvs _ => true
  | _ => false

/-- The events of a rendezvous window in which the host neither closes the window nor writes memory nor resets. -/
def quietEvent : Event → Bool
  | .host .obsEnd | .host .reset | .host (.set _ _) => false
  | _ => true

end Sys2Proof.Forms

open Sys2Proof Sys2Proof.Machine


/-- Every operand bit of every encoding survives (R52, R53, R54). -/
def Obligations.DecodeInvertsEncode : Prop :=
  ∀ (i : Instr) (rest : List Byte), decode (encode i ++ rest) = .ok (i, rest)

/-- The other direction of the round trip (R50, R54). -/
def Obligations.EncodeInvertsDecode : Prop :=
  ∀ (bytes rest : List Byte) (i : Instr), decode bytes = .ok (i, rest) → bytes = encode i ++ rest

/-- R51: the length is a function of the opcode byte through its format; R52 gives the lengths. -/
def Obligations.WellFormedBytesAreWhatDecodes : Prop :=
  ∀ bytes : List Byte, wellFormed bytes = true ↔ ∃ i, decode bytes = .ok (i, [])

/-- R55's own list of absent bytes against the table of R54. -/
def Obligations.AbsentBytesAreTheListed : Prop :=
  (∀ (op : Byte) (rest : List Byte),
      decode (op :: rest) = .error (.unknownOpcode op) ↔ Forms.absentByte op = true) ∧
    ((List.range 256).filter fun k => Forms.absentByte (BitVec.ofNat 8 k)).length = 109

/-- A few words of R54, R53 and the examples of R59. -/
def Obligations.SampleWordsDecode : Prop :=
  decode [0xA9#8, 0x05#8] = .ok (.ldaImm 0x05, []) ∧ decode [0xAA#8] = .ok (.tax, []) ∧
    decode [0x00#8] = .ok (.brk, []) ∧ decode [0x0A#8] = .ok (.aslAcc, []) ∧
    decode [0xA5#8, 0x10#8] = .ok (.ldaZp 0x10, []) ∧ decode [0xB5#8, 0x10#8] = .ok (.ldaZpx 0x10, []) ∧
    decode [0xB6#8, 0x10#8] = .ok (.ldxZpy 0x10, []) ∧ decode [0x4C#8, 0x00#8, 0x06#8] = .ok (.jmpAbs 0x0600, []) ∧
    decode [0x9D#8, 0x00#8, 0x02#8] = .ok (.staAbsx 0x0200, []) ∧
    decode [0xB9#8, 0x34#8, 0x12#8] = .ok (.ldaAbsy 0x1234, []) ∧
    decode [0x6C#8, 0x10#8, 0x00#8] = .ok (.jmpInd 0x0010, []) ∧ decode [0xA1#8, 0x10#8] = .ok (.ldaIndx 0x10, []) ∧
    decode [0x91#8, 0x10#8] = .ok (.staIndy 0x10, []) ∧ decode [0xD0#8, 0xFE#8] = .ok (.bne 0xFE, [])

/-- R70, points 1, 2, 4 and 5; the step is enabled as R101 says. The byte as `Config.rnd` at a counter and the counter's advance are the model's choices (log entries 1, 2), and so are the three bytes read ahead (log entry 13). -/
def Obligations.StepRunsDecodedInstruction : Prop :=
  ∀ (s : State) (i : Instr) (rest : List Byte),
    s.run = .running → s.hold = .free → s.faultLatch = none →
    let s1 := (s.setDraws (s.draws + 1)).write 0x00FE#16 (Config.rnd s.draws)
    decode [s1.read s.pc, s1.read (s.pc + 1), s1.read (s.pc + 2)] = .ok (i, rest) →
      step s = finishStep (exec i (s1.setPc (s.pc + 1)))

/-- R101, and R100 for STEP: the pacing loop and STEP are the only causes of a step. The draw counter and its advance are the model's choice and no rule's (log entries 1, 2). -/
def Obligations.StepTakenExactlyWhenEnabled : Prop :=
  ∀ s : State, s.faultLatch = none →
    (s.run = .running → s.hold = .free →
      step s = engineStep (Config.rnd s.draws) (s.setDraws (s.draws + 1))) ∧
    (¬(s.run = .running ∧ s.hold = .free) → step s = .next s) ∧
    (s.hold = .free →
      hostMove .step s = .ofResult (engineStep (Config.rnd s.draws) (s.setDraws (s.draws + 1))))

/-- R211 with the spec's decision D11, R58 with D27; clearing the stop request is log entry 8. -/
def Obligations.AbsentOpcodeLatchesAndStopsOrIsRefused : Prop :=
  ∀ (r : Byte) (s : State),
    let b := (s.write 0x00FE#16 r).read s.pc
    Forms.absentByte b = true →
    (b ∉ s.extTable →
      ∃ t, engineStep r s = .next t ∧ t.faultLatch = some (.unknownOpcode s.pc b) ∧ t.run = .stopped ∧
        t.pc = s.pc + 1 ∧ t.read 0x00FE#16 = r ∧ t.stopRequested = false ∧
        KeepsAllBut [.fault, .run, .pc, .cell 0x00FE#16, .stopRequest] s t) ∧
    (b ∈ s.extTable → engineStep r s = .refused (.extensionHandler b))

/-- R218 and R220 with the spec's decisions D24 and D13. -/
def Obligations.FaultIsFinalUntilReset : Prop :=
  ∀ (s : State) (f : FaultRecord), s.faultLatch = some f →
    step s = .fault f.outcome ∧ hostMove .start s = .refused .startWhileFaulted ∧
    hostMove .step s = .refused .stepWhileFaulted ∧
    (s.run = .stopped → ∃ t, hostMove .reset s = .next (t, .done) ∧ t.faultLatch = none ∧ t.run = .stopped)

/-- R71 with the parameter HALT_ON_PC_ZERO true (the spec's decision D12; log entry 11). -/
def Obligations.PcZeroStopsTheEngine : Prop :=
  ∀ (r : Byte) (s t : State), engineStep r s = .next t →
    (t.pc = 0x0000#16 → t.run = .stopped) ∧
    (t.pc ≠ 0x0000#16 → t.faultLatch = s.faultLatch → s.faultLatch = none → s.stopRequested = false →
      (s.write 0x00FE#16 r).read s.pc ≠ 0x00#8 → t.run = s.run)

/-- R199 with the spec's decision D5. That no request is pending after the step is the model's choice (log entry 8). -/
def Obligations.BrkStopsAfterOneByte : Prop :=
  (∀ (r : Byte) (s : State), (s.write 0x00FE#16 r).read s.pc = 0x00#8 →
    ∃ t, engineStep r s = .next t ∧ t.run = .stopped ∧ t.pc = s.pc + 1 ∧ t.read 0x00FE#16 = r ∧
      t.stopRequested = false ∧ KeepsAllBut [.run, .pc, .cell 0x00FE#16, .stopRequest] s t) ∧
  (∀ s : State, ∃ t, exec .brk s = .next t ∧ t.stopRequested = true ∧ KeepsAllBut [.stopRequest] s t)

/-- R39, which the spec marks as derived from R43. -/
def Obligations.RandomCellHidesEarlierStores : Prop :=
  ∀ (r v : Byte) (s : State), engineStep r (s.write 0x00FE#16 v) = engineStep r s

/-- R74, R75 (with the operand that each shift and rotate passes), R76. -/
def Obligations.FlagHelpersWriteTheirFlags : Prop :=
  ∀ (s : State) (v : Byte),
    (ShowsSZ v (s.setSZ v) ∧ KeepsAllBut [.flag .z, .flag .n] s (s.setSZ v)) ∧
    ((s.setCarryFromBit0 v).carry = v.getLsbD 0 ∧ KeepsAllBut [.flag .c] s (s.setCarryFromBit0 v)) ∧
    (∀ c, (lsrResult v c).carry = (s.setCarryFromBit0 v).carry ∧ (rorResult v c).carry = (s.setCarryFromBit0 v).carry ∧
      (aslResult v c).carry = (s.setCarryFromBit0 (v >>> 7)).carry ∧
      (rolResult v c).carry = (s.setCarryFromBit0 (v >>> 7)).carry) ∧
    (s.clearCarry.carry = false ∧ KeepsAllBut [.flag .c] s s.clearCarry) ∧
    (s.setCarry.carry = true ∧ KeepsAllBut [.flag .c] s s.setCarry) ∧
    (s.clearOverflow.overflow = false ∧ KeepsAllBut [.flag .v] s s.clearOverflow) ∧
    (s.setOverflow.overflow = true ∧ KeepsAllBut [.flag .v] s s.setOverflow)

/-- R80, R82. The event's record, a count, is the model's choice, which the spec's decision D19 leaves to it (log entry 9). -/
def Obligations.PushWritesThenDecrements : Prop :=
  ∀ (s : State) (v : Byte),
    (stackAddr s.sp).toNat = 0x100 + s.sp.toNat ∧ (s.push v).read (stackAddr s.sp) = v ∧
      (s.push v).sp.toNat = (s.sp.toNat + 255) % 256 ∧
      (s.push v).stackWraps = s.stackWraps + (if s.sp = 0x00#8 then 1 else 0) ∧
      KeepsAllBut [.cell (stackAddr s.sp), .sp, .stackWraps] s (s.push v)

/-- R81, R82. The event's record, a count, is the model's choice, which the spec's decision D19 leaves to it (log entry 9). -/
def Obligations.PopIncrementsThenReads : Prop :=
  ∀ s : State,
    s.popState.sp.toNat = (s.sp.toNat + 1) % 256 ∧
      s.popValue = s.read (BitVec.ofNat 16 (0x100 + (s.sp.toNat + 1) % 256)) ∧
      s.popState.stackWraps = s.stackWraps + (if s.sp = 0xFF#8 then 1 else 0) ∧
      KeepsAllBut [.sp, .stackWraps] s s.popState

/-- The testable property of R81; that it holds at SP = 0x00 the spec marks as derived. -/
def Obligations.PopAfterPushReturnsTheByte : Prop :=
  ∀ (s : State) (v : Byte), (s.push v).popValue = v ∧ (s.push v).popState.sp = s.sp

/-- R72, R73. -/
def Obligations.PopWordIsLittleEndian : Prop :=
  ∀ s : State,
    s.popByte.1 = s.read s.pc ∧ s.popByte.2.pc = s.pc + 1 ∧ KeepsAllBut [.pc] s s.popByte.2 ∧
      s.popWord.1.toNat = (s.read s.pc).toNat + 256 * (s.read (s.pc + 1)).toNat ∧
      s.popWord.2.pc = s.pc + 2 ∧ KeepsAllBut [.pc] s s.popWord.2

/-- R31, R32; the canonical form is the representation of M and the model's choice (log entries 3, 4). -/
def Obligations.MemoryReadsWhatWasWritten : Prop :=
  ∀ (m : Memory) (addr : Word) (v : Byte),
    (m.write addr v).read addr = v ∧ (∀ b, b ≠ addr → (m.write addr v).read b = m.read b) ∧
      (m.wf → (m.write addr v).wf)

/-- M is an array of 65536 cells (R26, R30); the list holds it without redundancy, the representation being the model's choice (log entries 3, 4). -/
def Obligations.EqualMemoriesAreEqualData : Prop :=
  ∀ m m' : Memory, m.wf → m'.wf → (∀ b : Word, m.read b = m'.read b) → m = m'

/-- R86 to R94; the wraps are the spec's decisions D6, D7 and, for IND, D8 with the parameter JMP_INDIRECT_PAGE_WRAP true (log entry 11). -/
def Obligations.EffectiveAddresses : Prop :=
  ∀ (s : State) (b : Byte) (w : Word),
    let cell := fun k : Nat => (s.read (BitVec.ofNat 16 k)).toNat
    let p := (b.toNat + s.x.toNat) % 256
    ((MemMode.zp b).ea s).toNat = b.toNat ∧
    ((MemMode.zpx b).ea s).toNat = (b.toNat + s.x.toNat) % 256 ∧
    ((MemMode.zpy b).ea s).toNat = (b.toNat + s.y.toNat) % 256 ∧
    ((MemMode.abs w).ea s).toNat = w.toNat ∧
    ((MemMode.absx w).ea s).toNat = (w.toNat + s.x.toNat) % 65536 ∧
    ((MemMode.absy w).ea s).toNat = (w.toNat + s.y.toNat) % 65536 ∧
    ((MemMode.indx b).ea s).toNat = cell p + 256 * cell ((p + 1) % 256) ∧
    ((MemMode.indy b).ea s).toNat = (cell b.toNat + 256 * cell ((b.toNat + 1) % 256) + s.y.toNat) % 65536 ∧
    (s.indirectTarget Config.jmpIndirectPageWrap w).toNat =
      cell w.toNat + 256 * cell (w.toNat / 256 * 256 + (w.toNat + 1) % 256)

/-- R110, R111, R112, in every mode the rules list. -/
def Obligations.LoadsWriteRegisterAndSZ : Prop :=
  ∀ (b : Byte) (w : Word) (s : State),
    (∀ f ∈ Forms.lda b w, ∃ t, exec f.1 s = .next t ∧ t.a = f.2.value s ∧ ShowsSZ (f.2.value s) t ∧
      t.pc = s.pc + f.2.operandBytes ∧ KeepsAllBut [.a, .flag .z, .flag .n, .pc] s t) ∧
    (∀ f ∈ Forms.ldx b w, ∃ t, exec f.1 s = .next t ∧ t.x = f.2.value s ∧ ShowsSZ (f.2.value s) t ∧
      t.pc = s.pc + f.2.operandBytes ∧ KeepsAllBut [.x, .flag .z, .flag .n, .pc] s t) ∧
    (∀ f ∈ Forms.ldy b w, ∃ t, exec f.1 s = .next t ∧ t.y = f.2.value s ∧ ShowsSZ (f.2.value s) t ∧
      t.pc = s.pc + f.2.operandBytes ∧ KeepsAllBut [.y, .flag .z, .flag .n, .pc] s t)

/-- R113, R114, R115, in every mode the rules list. -/
def Obligations.StoresWriteOneCell : Prop :=
  ∀ (b : Byte) (w : Word) (s : State),
    (∀ f ∈ Forms.sta b w, ∃ t, exec f.1 s = .next t ∧ t.read (f.2.ea s) = s.a ∧
      t.pc = s.pc + f.2.operandBytes ∧ KeepsAllBut [.cell (f.2.ea s), .pc] s t) ∧
    (∀ f ∈ Forms.stx b w, ∃ t, exec f.1 s = .next t ∧ t.read (f.2.ea s) = s.x ∧
      t.pc = s.pc + f.2.operandBytes ∧ KeepsAllBut [.cell (f.2.ea s), .pc] s t) ∧
    (∀ f ∈ Forms.sty b w, ∃ t, exec f.1 s = .next t ∧ t.read (f.2.ea s) = s.y ∧
      t.pc = s.pc + f.2.operandBytes ∧ KeepsAllBut [.cell (f.2.ea s), .pc] s t)

/-- R116. -/
def Obligations.TaxCopiesAAndSetsSZ : Prop :=
  ∀ s : State, ∃ t, exec .tax s = .next t ∧ t.x = s.a ∧ ShowsSZ s.a t ∧ KeepsAllBut [.x, .flag .z, .flag .n] s t

/-- R117 to R121; that these instructions exist is the spec's decision D3. -/
def Obligations.OtherTransfersCopyOneRegister : Prop :=
  ∀ s : State,
    (∃ t, exec .tay s = .next t ∧ t.y = s.a ∧ ShowsSZ s.a t ∧ KeepsAllBut [.y, .flag .z, .flag .n] s t) ∧
    (∃ t, exec .txa s = .next t ∧ t.a = s.x ∧ ShowsSZ s.x t ∧ KeepsAllBut [.a, .flag .z, .flag .n] s t) ∧
    (∃ t, exec .tya s = .next t ∧ t.a = s.y ∧ ShowsSZ s.y t ∧ KeepsAllBut [.a, .flag .z, .flag .n] s t) ∧
    (∃ t, exec .tsx s = .next t ∧ t.x = s.sp ∧ ShowsSZ s.sp t ∧ KeepsAllBut [.x, .flag .z, .flag .n] s t) ∧
    (∃ t, exec .txs s = .next t ∧ t.sp = s.x ∧ KeepsAllBut [.sp] s t)

/-- R130, R131. -/
def Obligations.IncDecModifyOneCell : Prop :=
  ∀ (b : Byte) (w : Word) (s : State),
    (∀ f ∈ Forms.inc b w, ∃ t, exec f.1 s = .next t ∧
      (t.read (f.2.ea s)).toNat = ((s.read (f.2.ea s)).toNat + 1) % 256 ∧ ShowsSZ (t.read (f.2.ea s)) t ∧
      t.pc = s.pc + f.2.operandBytes ∧ KeepsAllBut [.cell (f.2.ea s), .flag .z, .flag .n, .pc] s t) ∧
    (∀ f ∈ Forms.dec b w, ∃ t, exec f.1 s = .next t ∧
      (t.read (f.2.ea s)).toNat = ((s.read (f.2.ea s)).toNat + 255) % 256 ∧ ShowsSZ (t.read (f.2.ea s)) t ∧
      t.pc = s.pc + f.2.operandBytes ∧ KeepsAllBut [.cell (f.2.ea s), .flag .z, .flag .n, .pc] s t)

/-- R132 to R135. -/
def Obligations.IndexIncrementsWrap : Prop :=
  ∀ s : State,
    (∃ t, exec .inx s = .next t ∧ t.x.toNat = (s.x.toNat + 1) % 256 ∧ ShowsSZ t.x t ∧
      KeepsAllBut [.x, .flag .z, .flag .n] s t) ∧
    (∃ t, exec .iny s = .next t ∧ t.y.toNat = (s.y.toNat + 1) % 256 ∧ ShowsSZ t.y t ∧
      KeepsAllBut [.y, .flag .z, .flag .n] s t) ∧
    (∃ t, exec .dex s = .next t ∧ t.x.toNat = (s.x.toNat + 255) % 256 ∧ ShowsSZ t.x t ∧
      KeepsAllBut [.x, .flag .z, .flag .n] s t) ∧
    (∃ t, exec .dey s = .next t ∧ t.y.toNat = (s.y.toNat + 255) % 256 ∧ ShowsSZ t.y t ∧
      KeepsAllBut [.y, .flag .z, .flag .n] s t)

/-- R140, R141. -/
def Obligations.AndOraCombineWithA : Prop :=
  ∀ (b : Byte) (w : Word) (s : State),
    (∀ f ∈ Forms.and b w, ∃ t, exec f.1 s = .next t ∧
      (∀ k, t.a.getLsbD k = (s.a.getLsbD k && (f.2.value s).getLsbD k)) ∧ ShowsSZ t.a t ∧
      t.pc = s.pc + f.2.operandBytes ∧ KeepsAllBut [.a, .flag .z, .flag .n, .pc] s t) ∧
    (∀ f ∈ Forms.ora b w, ∃ t, exec f.1 s = .next t ∧
      (∀ k, t.a.getLsbD k = (s.a.getLsbD k || (f.2.value s).getLsbD k)) ∧ ShowsSZ t.a t ∧
      t.pc = s.pc + f.2.operandBytes ∧ KeepsAllBut [.a, .flag .z, .flag .n, .pc] s t)

/-- R142, R145; that these instructions exist is the spec's decision D3. -/
def Obligations.EorAndBitTestOperand : Prop :=
  ∀ (b : Byte) (w : Word) (s : State),
    (∀ f ∈ Forms.eor b w, ∃ t, exec f.1 s = .next t ∧
      (∀ k, t.a.getLsbD k = (s.a.getLsbD k ^^ (f.2.value s).getLsbD k)) ∧ ShowsSZ t.a t ∧
      t.pc = s.pc + f.2.operandBytes ∧ KeepsAllBut [.a, .flag .z, .flag .n, .pc] s t) ∧
    (∀ f ∈ Forms.bit b w, ∃ t, exec f.1 s = .next t ∧
      (t.zero = true ↔ s.a &&& f.2.value s = 0x00#8) ∧ t.negative = (f.2.value s).getLsbD 7 ∧
      t.overflow = (f.2.value s).getLsbD 6 ∧ t.pc = s.pc + f.2.operandBytes ∧
      KeepsAllBut [.flag .z, .flag .n, .flag .v, .pc] s t)

/-- R143, for D = 0. -/
def Obligations.AdcAddsWithCarryAndSignedOverflow : Prop :=
  ∀ (b : Byte) (w : Word) (s : State), s.decimalMode = false →
    ∀ f ∈ Forms.adc b w,
      let m := f.2.value s
      let sum := s.a.toInt + m.toInt + (carryNat s.carry : Int)
      ∃ t, exec f.1 s = .next t ∧
        256 * carryNat t.carry + t.a.toNat = s.a.toNat + m.toNat + carryNat s.carry ∧
        (t.overflow = true ↔ sum < -128 ∨ 127 < sum) ∧ ShowsSZ t.a t ∧ t.pc = s.pc + f.2.operandBytes ∧
        KeepsAllBut [.a, .flag .c, .flag .v, .flag .z, .flag .n, .pc] s t

/-- R144, for D = 0, as the pseudocode and the two sentences on C and V say; the equivalence with ADC is a statement of its own. -/
def Obligations.SbcSubtractsWithBorrowAndSignedOverflow : Prop :=
  ∀ (b : Byte) (w : Word) (s : State), s.decimalMode = false →
    ∀ f ∈ Forms.sbc b w,
      let m := f.2.value s
      let borrow := 1 - carryNat s.carry
      let diff := s.a.toInt - m.toInt - (borrow : Int)
      ∃ t, exec f.1 s = .next t ∧
        (t.a.toNat : Int) = ((s.a.toNat : Int) - m.toNat - borrow) % 256 ∧
        (t.carry = true ↔ m.toNat + borrow ≤ s.a.toNat) ∧
        (t.overflow = true ↔ diff < -128 ∨ 127 < diff) ∧ ShowsSZ t.a t ∧ t.pc = s.pc + f.2.operandBytes ∧
        KeepsAllBut [.a, .flag .c, .flag .v, .flag .z, .flag .n, .pc] s t

/-- R144: the equivalence that the spec marks as derived from R143. -/
def Obligations.SbcIsAdcOfTheComplement : Prop :=
  ∀ (a m : Byte) (c : Bool), sbcResult a m c = adcResult a (m ^^^ 0xFF#8) c

/-- R146 leaves A, C, V, Z, N open while the operand is fetched and PC advances; that the step goes on with a free value, and is not refused, is log entry 5. -/
def Obligations.DecimalArithmeticCompletesWithOpenValues : Prop :=
  ∀ (b : Byte) (w : Word) (s : State), s.decimalMode = true →
    ∀ f ∈ Forms.adc b w ++ Forms.sbc b w,
      ∃ t, exec f.1 s = .next t ∧ t.pc = s.pc + f.2.operandBytes ∧ t.decimalMode = true ∧
        KeepsAllBut [.a, .flag .c, .flag .v, .flag .z, .flag .n, .pc] s t

/-- R150 to R153 in mode ACC (R84). -/
def Obligations.AccumulatorShiftsMoveOneBit : Prop :=
  ∀ s : State,
    (∃ t, exec .aslAcc s = .next t ∧ 256 * carryNat t.carry + t.a.toNat = 2 * s.a.toNat ∧ ShowsSZ t.a t ∧
      KeepsAllBut [.a, .flag .c, .flag .z, .flag .n] s t) ∧
    (∃ t, exec .lsrAcc s = .next t ∧ 2 * t.a.toNat + carryNat t.carry = s.a.toNat ∧ ShowsSZ t.a t ∧
      KeepsAllBut [.a, .flag .c, .flag .z, .flag .n] s t) ∧
    (∃ t, exec .rolAcc s = .next t ∧ 256 * carryNat t.carry + t.a.toNat = 2 * s.a.toNat + carryNat s.carry ∧
      ShowsSZ t.a t ∧ KeepsAllBut [.a, .flag .c, .flag .z, .flag .n] s t) ∧
    (∃ t, exec .rorAcc s = .next t ∧ 2 * t.a.toNat + carryNat t.carry = s.a.toNat + 256 * carryNat s.carry ∧
      ShowsSZ t.a t ∧ KeepsAllBut [.a, .flag .c, .flag .z, .flag .n] s t)

/-- R150 to R153 in the memory modes (R97). -/
def Obligations.MemoryShiftsMoveOneBit : Prop :=
  ∀ (b : Byte) (w : Word) (s : State),
    (∀ f ∈ Forms.memoryShifts (Forms.asl b w), ∃ t, exec f.1 s = .next t ∧
      256 * carryNat t.carry + (t.read (f.2.ea s)).toNat = 2 * (s.read (f.2.ea s)).toNat ∧
      ShowsSZ (t.read (f.2.ea s)) t ∧ t.pc = s.pc + f.2.operandBytes ∧
      KeepsAllBut [.cell (f.2.ea s), .flag .c, .flag .z, .flag .n, .pc] s t) ∧
    (∀ f ∈ Forms.memoryShifts (Forms.lsr b w), ∃ t, exec f.1 s = .next t ∧
      2 * (t.read (f.2.ea s)).toNat + carryNat t.carry = (s.read (f.2.ea s)).toNat ∧
      ShowsSZ (t.read (f.2.ea s)) t ∧ t.pc = s.pc + f.2.operandBytes ∧
      KeepsAllBut [.cell (f.2.ea s), .flag .c, .flag .z, .flag .n, .pc] s t) ∧
    (∀ f ∈ Forms.memoryShifts (Forms.rol b w), ∃ t, exec f.1 s = .next t ∧
      256 * carryNat t.carry + (t.read (f.2.ea s)).toNat =
        2 * (s.read (f.2.ea s)).toNat + carryNat s.carry ∧
      ShowsSZ (t.read (f.2.ea s)) t ∧ t.pc = s.pc + f.2.operandBytes ∧
      KeepsAllBut [.cell (f.2.ea s), .flag .c, .flag .z, .flag .n, .pc] s t) ∧
    (∀ f ∈ Forms.memoryShifts (Forms.ror b w), ∃ t, exec f.1 s = .next t ∧
      2 * (t.read (f.2.ea s)).toNat + carryNat t.carry =
        (s.read (f.2.ea s)).toNat + 256 * carryNat s.carry ∧
      ShowsSZ (t.read (f.2.ea s)) t ∧ t.pc = s.pc + f.2.operandBytes ∧
      KeepsAllBut [.cell (f.2.ea s), .flag .c, .flag .z, .flag .n, .pc] s t)

/-- R160, R161, R162 with R78. -/
def Obligations.ComparesSetFlagsOnly : Prop :=
  ∀ (b : Byte) (w : Word) (s : State),
    ∀ g ∈ [(Forms.cmp b w, s.a), (Forms.cpx b w, s.x), (Forms.cpy b w, s.y)], ∀ f ∈ g.1,
      let r := g.2
      let o := f.2.value s
      ∃ t, exec f.1 s = .next t ∧ (t.carry = true ↔ o.toNat ≤ r.toNat) ∧ (t.zero = true ↔ r = o) ∧
        (t.negative = true ↔ 128 ≤ (r.toNat + 256 - o.toNat) % 256) ∧ t.pc = s.pc + f.2.operandBytes ∧
        KeepsAllBut [.flag .c, .flag .z, .flag .n, .pc] s t

/-- R170, R92 with JMP_INDIRECT_PAGE_WRAP true (the spec's decision D8; log entry 11). -/
def Obligations.JmpWritesOnlyPc : Prop :=
  ∀ (w : Word) (s : State),
    (∃ t, exec (.jmpAbs w) s = .next t ∧ t.pc = w ∧ KeepsAllBut [.pc] s t) ∧
    (∃ t, exec (.jmpInd w) s = .next t ∧
      t.pc.toNat = (s.read w).toNat +
        256 * (s.read (BitVec.ofNat 16 (w.toNat / 256 * 256 + (w.toNat + 1) % 256))).toNat ∧
      KeepsAllBut [.pc] s t)

/-- R171 (the spec's decision D9). The StackWrap count is the model's choice, which the spec's decision D19 leaves to it (log entry 9). -/
def Obligations.JsrPushesReturnAddress : Prop :=
  ∀ (w : Word) (s : State), ∃ t, exec (.jsr w) s = .next t ∧ t.pc = w ∧
    t.sp.toNat = (s.sp.toNat + 254) % 256 ∧
    (t.read (stackAddr s.sp)).toNat = (s.pc + 1).toNat / 256 ∧
    (t.read (stackAddr (s.sp - 1))).toNat = (s.pc + 1).toNat % 256 ∧
    t.stackWraps = s.stackWraps + (if s.sp.toNat ≤ 1 then 1 else 0) ∧
    KeepsAllBut [.pc, .sp, .cell (stackAddr s.sp), .cell (stackAddr (s.sp - 1)), .stackWraps] s t

/-- R172 (the spec's decision D9). The StackWrap count is the model's choice, which the spec's decision D19 leaves to it (log entry 9). -/
def Obligations.RtsReturnsPastPoppedAddress : Prop :=
  ∀ s : State, ∃ t, exec .rts s = .next t ∧
    t.pc.toNat = ((s.read (stackAddr (s.sp + 1))).toNat + 256 * (s.read (stackAddr (s.sp + 2))).toNat + 1) % 65536 ∧
    t.sp.toNat = (s.sp.toNat + 2) % 256 ∧
    t.stackWraps = s.stackWraps + (if 0xFE ≤ s.sp.toNat then 1 else 0) ∧
    KeepsAllBut [.pc, .sp, .stackWraps] s t

/-- R171 and R172: RTS adds the one back (the spec's decision D9). -/
def Obligations.RtsUndoesJsr : Prop :=
  ∀ (w : Word) (s t u v : State), exec (.jsr w) s = .next t → u.sp = t.sp →
    u.read (stackAddr s.sp) = t.read (stackAddr s.sp) →
    u.read (stackAddr (s.sp - 1)) = t.read (stackAddr (s.sp - 1)) →
    exec .rts u = .next v → v.pc = s.pc + 2 ∧ v.sp = s.sp

/-- R173 to R180 with R95 and R79. -/
def Obligations.BranchesTestOneFlag : Prop :=
  ∀ (b : Byte) (s : State), ∀ f ∈ Forms.branches b s, ∃ t, exec f.1 s = .next t ∧
    (t.pc.toNat : Int) = ((s.pc.toNat : Int) + 1 + (if f.2 then b.toInt else 0)) % 65536 ∧
    KeepsAllBut [.pc] s t

/-- R190, R192 (the spec's decisions D3 and D20). The StackWrap count is the model's choice, which the spec's decision D19 leaves to it (log entry 9). -/
def Obligations.PhaPhpPushOneByte : Prop :=
  ∀ s : State,
    (∃ t, exec .pha s = .next t ∧ t.read (stackAddr s.sp) = s.a ∧ t.sp.toNat = (s.sp.toNat + 255) % 256 ∧
      t.stackWraps = s.stackWraps + (if s.sp = 0x00#8 then 1 else 0) ∧
      KeepsAllBut [.cell (stackAddr s.sp), .sp, .stackWraps] s t) ∧
    (∃ t, exec .php s = .next t ∧ t.read (stackAddr s.sp) = s.p ∧ t.sp.toNat = (s.sp.toNat + 255) % 256 ∧
      t.stackWraps = s.stackWraps + (if s.sp = 0x00#8 then 1 else 0) ∧
      KeepsAllBut [.cell (stackAddr s.sp), .sp, .stackWraps] s t)

/-- R191 (the spec's decision D3). The StackWrap count is the model's choice, which the spec's decision D19 leaves to it (log entry 9). -/
def Obligations.PlaPullsAAndSetsSZ : Prop :=
  ∀ s : State,
    (∃ t, exec .pla s = .next t ∧ t.a = s.read (stackAddr (s.sp + 1)) ∧ t.sp.toNat = (s.sp.toNat + 1) % 256 ∧
      ShowsSZ t.a t ∧ t.stackWraps = s.stackWraps + (if s.sp = 0xFF#8 then 1 else 0) ∧
      KeepsAllBut [.a, .sp, .flag .z, .flag .n, .stackWraps] s t) ∧
    (∀ t u, exec .pha s = .next t → exec .pla t = .next u → u.a = s.a ∧ u.sp = s.sp)

/-- R193 to R197. -/
def Obligations.FlagInstructionsWriteOneBit : Prop :=
  ∀ s : State, ∀ f ∈ Forms.flagWrites,
    ∃ t, exec f.1 s = .next t ∧ t.flag f.2.1 = f.2.2 ∧ KeepsAllBut [.flag f.2.1] s t

/-- R198 (at PC = 0xFFFF the halt condition R71 stops the engine as well). -/
def Obligations.NopDoesNothing : Prop :=
  (∀ s : State, exec .nop s = .next s) ∧
  ∀ (r : Byte) (s : State), (s.write 0x00FE#16 r).read s.pc = 0xEA#8 → s.stopRequested = false → s.pc ≠ 0xFFFF#16 →
    ∃ t, engineStep r s = .next t ∧ t.read 0x00FE#16 = r ∧ t.pc = s.pc + 1 ∧ KeepsAllBut [.cell 0x00FE#16, .pc] s t

/-- R221 (one mode, the decision D28), and the exceptions lines of the instruction rules; for ADC and SBC with D = 1, where R146 has a model refuse the step, log entry 5. -/
def Obligations.EveryInstructionCompletes : Prop :=
  ∀ (i : Instr) (s : State), ∃ t, exec i s = .next t

/-- R14 and R51. -/
def Obligations.NonTransfersAdvanceByTheirLength : Prop :=
  ∀ (i : Instr) (s t : State), Forms.isTransfer i = false → exec i s = .next t →
    t.pc = s.pc + BitVec.ofNat 16 ((encode i).length - 1)

/-- R16, R19, R20 and the list at the end of section 3 of 10_state.md, which the spec marks as derived. -/
def Obligations.OnlyNamedInstructionsWriteDVAndReserved : Prop :=
  ∀ (i : Instr) (s t : State), exec i s = .next t →
    (t.flag .d ≠ s.flag .d → i = .cld ∨ i = .sed) ∧ (t.flag .v ≠ s.flag .v → Forms.writesV i = true) ∧
      t.p &&& 0x34#8 = s.p &&& 0x34#8 ∧ (Forms.writesNoFlag i = true → t.p = s.p)

/-- RUN is not written: R199 (BRK requests a stop), R70 point 5 and 90_conflicts.md C10 (that point is the only place where a step without a fault writes RUN; R22 lists BRK as a writer in that sense). RUN is not read: R22, 'No instruction reads it'. FAULT and HOLD: R23, R24. For ADC and SBC with D = 1 R146 has a model refuse the step; that they answer a next state here, with values that do not depend on RUN, FAULT or HOLD, is the model's choice (log entry 5). -/
def Obligations.InstructionsIgnoreEngineState : Prop :=
  ∀ (i : Instr) (s : State) (r : RunState) (f : Option FaultRecord) (h : HoldState),
    ∃ t, exec i s = .next t ∧
      exec i (((s.setRun r).setFaultLatch f).setHold h) = .next (((t.setRun r).setFaultLatch f).setHold h)

/-- R240, R242; the last clause is log entry 4. -/
def Obligations.ConstructionGivesTheInitialState : Prop :=
  (∀ m : Memory,
    let s := State.construct m
    s.a = 0x00#8 ∧ s.x = 0x00#8 ∧ s.y = 0x00#8 ∧ s.pc = 0x0600#16 ∧ s.sp = 0xFF#8 ∧ s.p = 0x30#8 ∧
      (∀ f, s.flag f = false) ∧ s.run = .stopped ∧ s.faultLatch = none ∧ s.hold = .free ∧ s.extTable = [] ∧
      s.mem = m) ∧
  State.reset = State.construct { cells := [], rnd := 0x00#8 }

/-- R241, and R244 with the spec's decision D13 for RUN, HOLD and FAULT. That RESET leaves the stop request, the StackWrap count and the draw counter is the model's choice (log entries 8, 9, 2), and that EXT_TABLE stays is log entry 10. -/
def Obligations.ResetZeroesLowMemoryAndRegisters : Prop :=
  ∀ s : State,
    let t := s.performReset
    (∀ b : Word, b.toNat ≤ 0x05FF → t.read b = 0x00#8) ∧ (∀ b : Word, 0x0600 ≤ b.toNat → t.read b = s.read b) ∧
      t.a = 0x00#8 ∧ t.x = 0x00#8 ∧ t.y = 0x00#8 ∧ t.pc = 0x0600#16 ∧ t.sp = 0xFF#8 ∧ t.p = 0x30#8 ∧
      t.faultLatch = none ∧ t.run = s.run ∧ t.hold = s.hold ∧ t.extTable = s.extTable ∧
      t.stopRequested = s.stopRequested ∧ t.stackWraps = s.stackWraps ∧ t.draws = s.draws

/-- R98, R99, R244 (the spec's decisions D13, D24, D31); the request is log entry 8. -/
def Obligations.RunControlMoves : Prop :=
  ∀ s : State,
    (s.faultLatch = none → ∃ t, hostMove .start s = .next (t, .done) ∧ t.run = .running ∧ KeepsAllBut [.run] s t) ∧
    (∃ t, hostMove .stop s = .next (t, .done) ∧ t.run = .stopped ∧ t.stopRequested = false ∧
      KeepsAllBut [.run, .stopRequest] s t) ∧
    (s.run = .stopped → hostMove .reset s = .next (s.performReset, .done)) ∧
    (s.run = .running → hostMove .reset s = .refused .resetWhileRunning)

/-- R100 (the spec's decision D16), R71, R220, and R58 with D27 for a bound byte. The draw counter and its advance are the model's choice (log entries 1, 2). For a byte of ADC or SBC with D = 1 R146 has a model refuse the step; that it answers a state here is the model's choice (log entry 5). -/
def Obligations.StepCommandLeavesRunUnlessHalted : Prop :=
  ∀ s : State,
    let drawn := engineStep (Config.rnd s.draws) (s.setDraws (s.draws + 1))
    let b := (s.write 0x00FE#16 (Config.rnd s.draws)).read s.pc
    (s.faultLatch = none → s.hold = .free →
      hostMove .step s = .ofResult drawn ∧
      (Forms.absentByte b = true → b ∈ s.extTable → hostMove .step s = .refused (.extensionHandler b)) ∧
      ((Forms.absentByte b = true → b ∉ s.extTable) →
        ∃ t, drawn = .next t ∧ hostMove .step s = .next (t, .done) ∧ t.draws = s.draws + 1 ∧ t.hold = .free ∧
          (t.faultLatch ≠ none ↔ Forms.absentByte b = true) ∧
          (t.pc = 0x0000#16 ∨ t.faultLatch ≠ none ∨ b = 0x00#8 ∨ s.stopRequested = true → t.run = .stopped) ∧
          (t.pc ≠ 0x0000#16 → t.faultLatch = none → b ≠ 0x00#8 → s.stopRequested = false → t.run = s.run))) ∧
    (s.faultLatch ≠ none → hostMove .step s = .refused .stepWhileFaulted) ∧
    (s.faultLatch = none → s.hold = .held → hostMove .step s = .refused .stepWhileHeld)

/-- R99; it rests on the discharge of the request, log entry 8. -/
def Obligations.StopInFlightEqualsStopAfterTheStep : Prop :=
  ∀ s : State, s.stepEnabled = true → s.stopRequested = false →
    (∀ t, step s = .next t → hostMove .stopInFlight s = hostMove .stop t) ∧
    (∀ r, step s = .refused r → hostMove .stopInFlight s = .refused r)

/-- R224, R225, R226 (the spec's decision D21 for moves out of turn). -/
def Obligations.WindowFreezesTheMachine : Prop :=
  (∀ (es : List Event) (s t : State), s.hold = .held → (∀ e ∈ es, Forms.quietEvent e = true) →
    s.afterAll es = .next t → t.hold = .held ∧ t.mem = s.mem ∧ KeepsAllBut [.run, .stopRequest, .extTable] s t) ∧
  (∀ s : State, s.hold = .free → hostMove .obsBegin s = .next (s.setHold .held, .done) ∧
    hostMove .obsEnd s = .refused .endWhileFree) ∧
  (∀ s : State, s.hold = .held → hostMove .obsEnd s = .next (s.setHold .free, .done) ∧
    hostMove .obsBegin s = .refused .beginWhileHeld)

/-- R45, R212, R227, R230, R216 (the spec's decisions D17, D18, D30). -/
def Obligations.HostAccessOnlyWhileIdle : Prop :=
  ∀ (s : State) (addr value : Int),
    (s.run = .stopped ∨ s.hold = .held →
      (0 ≤ addr ∧ addr ≤ 65535 →
        hostMove (.get addr) s = .next (s, .byte (s.read (BitVec.ofInt 16 addr))) ∧
        ∃ t, hostMove (.set addr value) s = .next (t, .done) ∧
          ((t.read (BitVec.ofInt 16 addr)).toNat : Int) = value % 256 ∧
          KeepsAllBut [.cell (BitVec.ofInt 16 addr)] s t) ∧
      (¬(0 ≤ addr ∧ addr ≤ 65535) → hostMove (.get addr) s = .next (s, .outOfBounds addr) ∧
        hostMove (.set addr value) s = .next (s, .outOfBounds addr)) ∧
      ∃ chars, hostMove .flags s = .next (s, .flagString chars) ∧ chars.length = 8 ∧
        ∀ k, k < 8 → chars[k]? = some (if s.p.getLsbD (7 - k) then '1' else '0')) ∧
    (s.run = .running → s.hold = .free →
      hostMove (.get addr) s = .refused .accessWhileRunning ∧
      hostMove (.set addr value) s = .refused .accessWhileRunning ∧
      hostMove .flags s = .refused .accessWhileRunning) ∧
    hostMove .irq s = .next (s, .notImplemented)

/-- R58, R230 (the spec's decision D27); log entry 10. -/
def Obligations.BindingIsForAbsentBytesBeforeTheFirstStep : Prop :=
  ∀ (s : State) (op : Byte),
    (s.draws = 0 → Forms.absentByte op = true → ∃ t, hostMove (.bind op) s = .next (t, .done) ∧
      (∀ b, b ∈ t.extTable ↔ b = op ∨ b ∈ s.extTable) ∧ KeepsAllBut [.extTable] s t) ∧
    (s.draws = 0 → Forms.absentByte op = false → hostMove (.bind op) s = .refused (.bindBaselineOpcode op)) ∧
    (s.draws ≠ 0 → hostMove (.bind op) s = .refused .bindAfterFirstStep)

/-- R16 at R29. The reserved bits of P are R16, a set FAULT only while Stopped is R211 and R220, only absent bytes bound is R58. The other clauses are the model's choices and no rule's: no stop request pending is log entry 8, the canonical form of memory log entries 3 and 4, each bound byte once log entry 10. -/
def Obligations.ResetIsGood : Prop :=
  State.reset.Inv

/-- The reserved bits of P are R16, a set FAULT only while Stopped is R211 and R220, only absent bytes bound is R58. The other clauses are the model's choices and no rule's: no stop request pending is log entry 8, the canonical form of memory log entries 3 and 4, each bound byte once log entry 10. -/
def Obligations.EveryStepKeepsTheInvariant : Prop :=
  ∀ s t : State, s.Inv → step s = .next t → t.Inv

/-- R16: in every reachable state; R230 gives the moves. The reserved bits of P are R16, a set FAULT only while Stopped is R211 and R220, only absent bytes bound is R58. The other clauses are the model's choices and no rule's: no stop request pending is log entry 8, the canonical form of memory log entries 3 and 4, each bound byte once log entry 10. -/
def Obligations.ReachableStatesAreGood : Prop :=
  ∀ s : State, s.Reachable → s.Inv

/-- R223 and R230 give the events. The reserved bits of P are R16, a set FAULT only while Stopped is R211 and R220, only absent bytes bound is R58. The other clauses are the model's choices and no rule's: no stop request pending is log entry 8, the canonical form of memory log entries 3 and 4, each bound byte once log entry 10. -/
def Obligations.EveryEventKeepsTheInvariant : Prop :=
  ∀ (s t : State) (e : Event), s.Inv → s.after e = .next t → t.Inv
end

