-- ==== Sys2Proof/Laws/Decode.lean ====
section
/-! SUPPORT. The byte order of 16-bit operands and what the decoder does with three bytes. -/

namespace Sys2Proof

@[simp] theorem wordOf_lowByte_highByte (w : Word) : wordOf (lowByte w) (highByte w) = w := by
  apply BitVec.eq_of_getLsbD_eq
  intro i hi
  simp only [wordOf, lowByte, highByte, BitVec.getLsbD_append, BitVec.getLsbD_extractLsb']
  by_cases h : i < 8
  · simp [h]
  · have h1 : i - 8 < 8 := by omega
    have h2 : 8 + (i - 8) = i := by omega
    simp [h, h1, h2]

@[simp] theorem lowByte_wordOf (lo hi : Byte) : lowByte (wordOf lo hi) = lo := by
  apply BitVec.eq_of_getLsbD_eq
  intro i h
  simp only [wordOf, lowByte, BitVec.getLsbD_extractLsb', BitVec.getLsbD_append]
  simp [h]

@[simp] theorem highByte_wordOf (lo hi : Byte) : highByte (wordOf lo hi) = hi := by
  apply BitVec.eq_of_getLsbD_eq
  intro i h
  simp only [wordOf, highByte, BitVec.getLsbD_extractLsb', BitVec.getLsbD_append]
  simp [h]

/-- A 16-bit quantity is its low byte plus 256 times its high byte (R34). -/
theorem toNat_wordOf (lo hi : Byte) : (wordOf lo hi).toNat = lo.toNat + 256 * hi.toNat := by
  have := lo.isLt
  rw [wordOf, BitVec.toNat_append, Nat.shiftLeft_eq, ← Nat.mul_comm]
  rw [Nat.mul_comm, Nat.mul_comm (hi.toNat), ← Nat.two_pow_add_eq_or_of_lt lo.isLt]
  omega

/-- On three bytes the decoder finds an instruction, or the opcode byte is not in the table. -/
theorem decode_three (op b1 b2 : Byte) :
    (∃ i rest, decode [op, b1, b2] = .ok (i, rest) ∧ (lookupOpcode op).isSome) ∨
      decode [op, b1, b2] = .error (.unknownOpcode op) ∧ lookupOpcode op = none := by
  cases h : lookupOpcode op with
  | none => exact .inr ⟨by simp [decode, h], rfl⟩
  | some e => cases e <;> exact .inl (by simp [decode, h])

end Sys2Proof
end

