-- ==== Sys2Proof/Laws/State.lean ====
section
/-! SUPPORT. One lemma per field per register write, so that no later proof unfolds a record update. -/

namespace Sys2Proof.Machine

/-! Writing `a` -/

@[simp] theorem setA_a (s : State) (v : Byte) : (s.setA v).a = v := rfl
@[simp] theorem setA_x (s : State) (v : Byte) : (s.setA v).x = s.x := rfl
@[simp] theorem setA_y (s : State) (v : Byte) : (s.setA v).y = s.y := rfl
@[simp] theorem setA_sp (s : State) (v : Byte) : (s.setA v).sp = s.sp := rfl
@[simp] theorem setA_pc (s : State) (v : Byte) : (s.setA v).pc = s.pc := rfl
@[simp] theorem setA_p (s : State) (v : Byte) : (s.setA v).p = s.p := rfl
@[simp] theorem setA_mem (s : State) (v : Byte) : (s.setA v).mem = s.mem := rfl
@[simp] theorem setA_run (s : State) (v : Byte) : (s.setA v).run = s.run := rfl
@[simp] theorem setA_stopRequested (s : State) (v : Byte) : (s.setA v).stopRequested = s.stopRequested := rfl
@[simp] theorem setA_faultLatch (s : State) (v : Byte) : (s.setA v).faultLatch = s.faultLatch := rfl
@[simp] theorem setA_hold (s : State) (v : Byte) : (s.setA v).hold = s.hold := rfl
@[simp] theorem setA_extTable (s : State) (v : Byte) : (s.setA v).extTable = s.extTable := rfl
@[simp] theorem setA_stackWraps (s : State) (v : Byte) : (s.setA v).stackWraps = s.stackWraps := rfl
@[simp] theorem setA_draws (s : State) (v : Byte) : (s.setA v).draws = s.draws := rfl

/-! Writing `x` -/

@[simp] theorem setX_a (s : State) (v : Byte) : (s.setX v).a = s.a := rfl
@[simp] theorem setX_x (s : State) (v : Byte) : (s.setX v).x = v := rfl
@[simp] theorem setX_y (s : State) (v : Byte) : (s.setX v).y = s.y := rfl
@[simp] theorem setX_sp (s : State) (v : Byte) : (s.setX v).sp = s.sp := rfl
@[simp] theorem setX_pc (s : State) (v : Byte) : (s.setX v).pc = s.pc := rfl
@[simp] theorem setX_p (s : State) (v : Byte) : (s.setX v).p = s.p := rfl
@[simp] theorem setX_mem (s : State) (v : Byte) : (s.setX v).mem = s.mem := rfl
@[simp] theorem setX_run (s : State) (v : Byte) : (s.setX v).run = s.run := rfl
@[simp] theorem setX_stopRequested (s : State) (v : Byte) : (s.setX v).stopRequested = s.stopRequested := rfl
@[simp] theorem setX_faultLatch (s : State) (v : Byte) : (s.setX v).faultLatch = s.faultLatch := rfl
@[simp] theorem setX_hold (s : State) (v : Byte) : (s.setX v).hold = s.hold := rfl
@[simp] theorem setX_extTable (s : State) (v : Byte) : (s.setX v).extTable = s.extTable := rfl
@[simp] theorem setX_stackWraps (s : State) (v : Byte) : (s.setX v).stackWraps = s.stackWraps := rfl
@[simp] theorem setX_draws (s : State) (v : Byte) : (s.setX v).draws = s.draws := rfl

/-! Writing `y` -/

@[simp] theorem setY_a (s : State) (v : Byte) : (s.setY v).a = s.a := rfl
@[simp] theorem setY_x (s : State) (v : Byte) : (s.setY v).x = s.x := rfl
@[simp] theorem setY_y (s : State) (v : Byte) : (s.setY v).y = v := rfl
@[simp] theorem setY_sp (s : State) (v : Byte) : (s.setY v).sp = s.sp := rfl
@[simp] theorem setY_pc (s : State) (v : Byte) : (s.setY v).pc = s.pc := rfl
@[simp] theorem setY_p (s : State) (v : Byte) : (s.setY v).p = s.p := rfl
@[simp] theorem setY_mem (s : State) (v : Byte) : (s.setY v).mem = s.mem := rfl
@[simp] theorem setY_run (s : State) (v : Byte) : (s.setY v).run = s.run := rfl
@[simp] theorem setY_stopRequested (s : State) (v : Byte) : (s.setY v).stopRequested = s.stopRequested := rfl
@[simp] theorem setY_faultLatch (s : State) (v : Byte) : (s.setY v).faultLatch = s.faultLatch := rfl
@[simp] theorem setY_hold (s : State) (v : Byte) : (s.setY v).hold = s.hold := rfl
@[simp] theorem setY_extTable (s : State) (v : Byte) : (s.setY v).extTable = s.extTable := rfl
@[simp] theorem setY_stackWraps (s : State) (v : Byte) : (s.setY v).stackWraps = s.stackWraps := rfl
@[simp] theorem setY_draws (s : State) (v : Byte) : (s.setY v).draws = s.draws := rfl

/-! Writing `sp` -/

@[simp] theorem setSp_a (s : State) (v : Byte) : (s.setSp v).a = s.a := rfl
@[simp] theorem setSp_x (s : State) (v : Byte) : (s.setSp v).x = s.x := rfl
@[simp] theorem setSp_y (s : State) (v : Byte) : (s.setSp v).y = s.y := rfl
@[simp] theorem setSp_sp (s : State) (v : Byte) : (s.setSp v).sp = v := rfl
@[simp] theorem setSp_pc (s : State) (v : Byte) : (s.setSp v).pc = s.pc := rfl
@[simp] theorem setSp_p (s : State) (v : Byte) : (s.setSp v).p = s.p := rfl
@[simp] theorem setSp_mem (s : State) (v : Byte) : (s.setSp v).mem = s.mem := rfl
@[simp] theorem setSp_run (s : State) (v : Byte) : (s.setSp v).run = s.run := rfl
@[simp] theorem setSp_stopRequested (s : State) (v : Byte) : (s.setSp v).stopRequested = s.stopRequested := rfl
@[simp] theorem setSp_faultLatch (s : State) (v : Byte) : (s.setSp v).faultLatch = s.faultLatch := rfl
@[simp] theorem setSp_hold (s : State) (v : Byte) : (s.setSp v).hold = s.hold := rfl
@[simp] theorem setSp_extTable (s : State) (v : Byte) : (s.setSp v).extTable = s.extTable := rfl
@[simp] theorem setSp_stackWraps (s : State) (v : Byte) : (s.setSp v).stackWraps = s.stackWraps := rfl
@[simp] theorem setSp_draws (s : State) (v : Byte) : (s.setSp v).draws = s.draws := rfl

/-! Writing `pc` -/

@[simp] theorem setPc_a (s : State) (v : Word) : (s.setPc v).a = s.a := rfl
@[simp] theorem setPc_x (s : State) (v : Word) : (s.setPc v).x = s.x := rfl
@[simp] theorem setPc_y (s : State) (v : Word) : (s.setPc v).y = s.y := rfl
@[simp] theorem setPc_sp (s : State) (v : Word) : (s.setPc v).sp = s.sp := rfl
@[simp] theorem setPc_pc (s : State) (v : Word) : (s.setPc v).pc = v := rfl
@[simp] theorem setPc_p (s : State) (v : Word) : (s.setPc v).p = s.p := rfl
@[simp] theorem setPc_mem (s : State) (v : Word) : (s.setPc v).mem = s.mem := rfl
@[simp] theorem setPc_run (s : State) (v : Word) : (s.setPc v).run = s.run := rfl
@[simp] theorem setPc_stopRequested (s : State) (v : Word) : (s.setPc v).stopRequested = s.stopRequested := rfl
@[simp] theorem setPc_faultLatch (s : State) (v : Word) : (s.setPc v).faultLatch = s.faultLatch := rfl
@[simp] theorem setPc_hold (s : State) (v : Word) : (s.setPc v).hold = s.hold := rfl
@[simp] theorem setPc_extTable (s : State) (v : Word) : (s.setPc v).extTable = s.extTable := rfl
@[simp] theorem setPc_stackWraps (s : State) (v : Word) : (s.setPc v).stackWraps = s.stackWraps := rfl
@[simp] theorem setPc_draws (s : State) (v : Word) : (s.setPc v).draws = s.draws := rfl

/-! Writing `p` -/

@[simp] theorem setP_a (s : State) (v : Byte) : (s.setP v).a = s.a := rfl
@[simp] theorem setP_x (s : State) (v : Byte) : (s.setP v).x = s.x := rfl
@[simp] theorem setP_y (s : State) (v : Byte) : (s.setP v).y = s.y := rfl
@[simp] theorem setP_sp (s : State) (v : Byte) : (s.setP v).sp = s.sp := rfl
@[simp] theorem setP_pc (s : State) (v : Byte) : (s.setP v).pc = s.pc := rfl
@[simp] theorem setP_p (s : State) (v : Byte) : (s.setP v).p = v := rfl
@[simp] theorem setP_mem (s : State) (v : Byte) : (s.setP v).mem = s.mem := rfl
@[simp] theorem setP_run (s : State) (v : Byte) : (s.setP v).run = s.run := rfl
@[simp] theorem setP_stopRequested (s : State) (v : Byte) : (s.setP v).stopRequested = s.stopRequested := rfl
@[simp] theorem setP_faultLatch (s : State) (v : Byte) : (s.setP v).faultLatch = s.faultLatch := rfl
@[simp] theorem setP_hold (s : State) (v : Byte) : (s.setP v).hold = s.hold := rfl
@[simp] theorem setP_extTable (s : State) (v : Byte) : (s.setP v).extTable = s.extTable := rfl
@[simp] theorem setP_stackWraps (s : State) (v : Byte) : (s.setP v).stackWraps = s.stackWraps := rfl
@[simp] theorem setP_draws (s : State) (v : Byte) : (s.setP v).draws = s.draws := rfl

/-! Writing `mem` -/

@[simp] theorem setMem_a (s : State) (v : Memory) : (s.setMem v).a = s.a := rfl
@[simp] theorem setMem_x (s : State) (v : Memory) : (s.setMem v).x = s.x := rfl
@[simp] theorem setMem_y (s : State) (v : Memory) : (s.setMem v).y = s.y := rfl
@[simp] theorem setMem_sp (s : State) (v : Memory) : (s.setMem v).sp = s.sp := rfl
@[simp] theorem setMem_pc (s : State) (v : Memory) : (s.setMem v).pc = s.pc := rfl
@[simp] theorem setMem_p (s : State) (v : Memory) : (s.setMem v).p = s.p := rfl
@[simp] theorem setMem_mem (s : State) (v : Memory) : (s.setMem v).mem = v := rfl
@[simp] theorem setMem_run (s : State) (v : Memory) : (s.setMem v).run = s.run := rfl
@[simp] theorem setMem_stopRequested (s : State) (v : Memory) : (s.setMem v).stopRequested = s.stopRequested := rfl
@[simp] theorem setMem_faultLatch (s : State) (v : Memory) : (s.setMem v).faultLatch = s.faultLatch := rfl
@[simp] theorem setMem_hold (s : State) (v : Memory) : (s.setMem v).hold = s.hold := rfl
@[simp] theorem setMem_extTable (s : State) (v : Memory) : (s.setMem v).extTable = s.extTable := rfl
@[simp] theorem setMem_stackWraps (s : State) (v : Memory) : (s.setMem v).stackWraps = s.stackWraps := rfl
@[simp] theorem setMem_draws (s : State) (v : Memory) : (s.setMem v).draws = s.draws := rfl

/-! Writing `run` -/

@[simp] theorem setRun_a (s : State) (v : RunState) : (s.setRun v).a = s.a := rfl
@[simp] theorem setRun_x (s : State) (v : RunState) : (s.setRun v).x = s.x := rfl
@[simp] theorem setRun_y (s : State) (v : RunState) : (s.setRun v).y = s.y := rfl
@[simp] theorem setRun_sp (s : State) (v : RunState) : (s.setRun v).sp = s.sp := rfl
@[simp] theorem setRun_pc (s : State) (v : RunState) : (s.setRun v).pc = s.pc := rfl
@[simp] theorem setRun_p (s : State) (v : RunState) : (s.setRun v).p = s.p := rfl
@[simp] theorem setRun_mem (s : State) (v : RunState) : (s.setRun v).mem = s.mem := rfl
@[simp] theorem setRun_run (s : State) (v : RunState) : (s.setRun v).run = v := rfl
@[simp] theorem setRun_stopRequested (s : State) (v : RunState) : (s.setRun v).stopRequested = s.stopRequested := rfl
@[simp] theorem setRun_faultLatch (s : State) (v : RunState) : (s.setRun v).faultLatch = s.faultLatch := rfl
@[simp] theorem setRun_hold (s : State) (v : RunState) : (s.setRun v).hold = s.hold := rfl
@[simp] theorem setRun_extTable (s : State) (v : RunState) : (s.setRun v).extTable = s.extTable := rfl
@[simp] theorem setRun_stackWraps (s : State) (v : RunState) : (s.setRun v).stackWraps = s.stackWraps := rfl
@[simp] theorem setRun_draws (s : State) (v : RunState) : (s.setRun v).draws = s.draws := rfl

/-! Writing `stopRequested` -/

@[simp] theorem setStopRequested_a (s : State) (v : Bool) : (s.setStopRequested v).a = s.a := rfl
@[simp] theorem setStopRequested_x (s : State) (v : Bool) : (s.setStopRequested v).x = s.x := rfl
@[simp] theorem setStopRequested_y (s : State) (v : Bool) : (s.setStopRequested v).y = s.y := rfl
@[simp] theorem setStopRequested_sp (s : State) (v : Bool) : (s.setStopRequested v).sp = s.sp := rfl
@[simp] theorem setStopRequested_pc (s : State) (v : Bool) : (s.setStopRequested v).pc = s.pc := rfl
@[simp] theorem setStopRequested_p (s : State) (v : Bool) : (s.setStopRequested v).p = s.p := rfl
@[simp] theorem setStopRequested_mem (s : State) (v : Bool) : (s.setStopRequested v).mem = s.mem := rfl
@[simp] theorem setStopRequested_run (s : State) (v : Bool) : (s.setStopRequested v).run = s.run := rfl
@[simp] theorem setStopRequested_stopRequested (s : State) (v : Bool) : (s.setStopRequested v).stopRequested = v := rfl
@[simp] theorem setStopRequested_faultLatch (s : State) (v : Bool) : (s.setStopRequested v).faultLatch = s.faultLatch := rfl
@[simp] theorem setStopRequested_hold (s : State) (v : Bool) : (s.setStopRequested v).hold = s.hold := rfl
@[simp] theorem setStopRequested_extTable (s : State) (v : Bool) : (s.setStopRequested v).extTable = s.extTable := rfl
@[simp] theorem setStopRequested_stackWraps (s : State) (v : Bool) : (s.setStopRequested v).stackWraps = s.stackWraps := rfl
@[simp] theorem setStopRequested_draws (s : State) (v : Bool) : (s.setStopRequested v).draws = s.draws := rfl

/-! Writing `faultLatch` -/

@[simp] theorem setFaultLatch_a (s : State) (v : Option FaultRecord) : (s.setFaultLatch v).a = s.a := rfl
@[simp] theorem setFaultLatch_x (s : State) (v : Option FaultRecord) : (s.setFaultLatch v).x = s.x := rfl
@[simp] theorem setFaultLatch_y (s : State) (v : Option FaultRecord) : (s.setFaultLatch v).y = s.y := rfl
@[simp] theorem setFaultLatch_sp (s : State) (v : Option FaultRecord) : (s.setFaultLatch v).sp = s.sp := rfl
@[simp] theorem setFaultLatch_pc (s : State) (v : Option FaultRecord) : (s.setFaultLatch v).pc = s.pc := rfl
@[simp] theorem setFaultLatch_p (s : State) (v : Option FaultRecord) : (s.setFaultLatch v).p = s.p := rfl
@[simp] theorem setFaultLatch_mem (s : State) (v : Option FaultRecord) : (s.setFaultLatch v).mem = s.mem := rfl
@[simp] theorem setFaultLatch_run (s : State) (v : Option FaultRecord) : (s.setFaultLatch v).run = s.run := rfl
@[simp] theorem setFaultLatch_stopRequested (s : State) (v : Option FaultRecord) : (s.setFaultLatch v).stopRequested = s.stopRequested := rfl
@[simp] theorem setFaultLatch_faultLatch (s : State) (v : Option FaultRecord) : (s.setFaultLatch v).faultLatch = v := rfl
@[simp] theorem setFaultLatch_hold (s : State) (v : Option FaultRecord) : (s.setFaultLatch v).hold = s.hold := rfl
@[simp] theorem setFaultLatch_extTable (s : State) (v : Option FaultRecord) : (s.setFaultLatch v).extTable = s.extTable := rfl
@[simp] theorem setFaultLatch_stackWraps (s : State) (v : Option FaultRecord) : (s.setFaultLatch v).stackWraps = s.stackWraps := rfl
@[simp] theorem setFaultLatch_draws (s : State) (v : Option FaultRecord) : (s.setFaultLatch v).draws = s.draws := rfl

/-! Writing `hold` -/

@[simp] theorem setHold_a (s : State) (v : HoldState) : (s.setHold v).a = s.a := rfl
@[simp] theorem setHold_x (s : State) (v : HoldState) : (s.setHold v).x = s.x := rfl
@[simp] theorem setHold_y (s : State) (v : HoldState) : (s.setHold v).y = s.y := rfl
@[simp] theorem setHold_sp (s : State) (v : HoldState) : (s.setHold v).sp = s.sp := rfl
@[simp] theorem setHold_pc (s : State) (v : HoldState) : (s.setHold v).pc = s.pc := rfl
@[simp] theorem setHold_p (s : State) (v : HoldState) : (s.setHold v).p = s.p := rfl
@[simp] theorem setHold_mem (s : State) (v : HoldState) : (s.setHold v).mem = s.mem := rfl
@[simp] theorem setHold_run (s : State) (v : HoldState) : (s.setHold v).run = s.run := rfl
@[simp] theorem setHold_stopRequested (s : State) (v : HoldState) : (s.setHold v).stopRequested = s.stopRequested := rfl
@[simp] theorem setHold_faultLatch (s : State) (v : HoldState) : (s.setHold v).faultLatch = s.faultLatch := rfl
@[simp] theorem setHold_hold (s : State) (v : HoldState) : (s.setHold v).hold = v := rfl
@[simp] theorem setHold_extTable (s : State) (v : HoldState) : (s.setHold v).extTable = s.extTable := rfl
@[simp] theorem setHold_stackWraps (s : State) (v : HoldState) : (s.setHold v).stackWraps = s.stackWraps := rfl
@[simp] theorem setHold_draws (s : State) (v : HoldState) : (s.setHold v).draws = s.draws := rfl

/-! Writing `extTable` -/

@[simp] theorem setExtTable_a (s : State) (v : List Byte) : (s.setExtTable v).a = s.a := rfl
@[simp] theorem setExtTable_x (s : State) (v : List Byte) : (s.setExtTable v).x = s.x := rfl
@[simp] theorem setExtTable_y (s : State) (v : List Byte) : (s.setExtTable v).y = s.y := rfl
@[simp] theorem setExtTable_sp (s : State) (v : List Byte) : (s.setExtTable v).sp = s.sp := rfl
@[simp] theorem setExtTable_pc (s : State) (v : List Byte) : (s.setExtTable v).pc = s.pc := rfl
@[simp] theorem setExtTable_p (s : State) (v : List Byte) : (s.setExtTable v).p = s.p := rfl
@[simp] theorem setExtTable_mem (s : State) (v : List Byte) : (s.setExtTable v).mem = s.mem := rfl
@[simp] theorem setExtTable_run (s : State) (v : List Byte) : (s.setExtTable v).run = s.run := rfl
@[simp] theorem setExtTable_stopRequested (s : State) (v : List Byte) : (s.setExtTable v).stopRequested = s.stopRequested := rfl
@[simp] theorem setExtTable_faultLatch (s : State) (v : List Byte) : (s.setExtTable v).faultLatch = s.faultLatch := rfl
@[simp] theorem setExtTable_hold (s : State) (v : List Byte) : (s.setExtTable v).hold = s.hold := rfl
@[simp] theorem setExtTable_extTable (s : State) (v : List Byte) : (s.setExtTable v).extTable = v := rfl
@[simp] theorem setExtTable_stackWraps (s : State) (v : List Byte) : (s.setExtTable v).stackWraps = s.stackWraps := rfl
@[simp] theorem setExtTable_draws (s : State) (v : List Byte) : (s.setExtTable v).draws = s.draws := rfl

/-! Writing `stackWraps` -/

@[simp] theorem setStackWraps_a (s : State) (v : Nat) : (s.setStackWraps v).a = s.a := rfl
@[simp] theorem setStackWraps_x (s : State) (v : Nat) : (s.setStackWraps v).x = s.x := rfl
@[simp] theorem setStackWraps_y (s : State) (v : Nat) : (s.setStackWraps v).y = s.y := rfl
@[simp] theorem setStackWraps_sp (s : State) (v : Nat) : (s.setStackWraps v).sp = s.sp := rfl
@[simp] theorem setStackWraps_pc (s : State) (v : Nat) : (s.setStackWraps v).pc = s.pc := rfl
@[simp] theorem setStackWraps_p (s : State) (v : Nat) : (s.setStackWraps v).p = s.p := rfl
@[simp] theorem setStackWraps_mem (s : State) (v : Nat) : (s.setStackWraps v).mem = s.mem := rfl
@[simp] theorem setStackWraps_run (s : State) (v : Nat) : (s.setStackWraps v).run = s.run := rfl
@[simp] theorem setStackWraps_stopRequested (s : State) (v : Nat) : (s.setStackWraps v).stopRequested = s.stopRequested := rfl
@[simp] theorem setStackWraps_faultLatch (s : State) (v : Nat) : (s.setStackWraps v).faultLatch = s.faultLatch := rfl
@[simp] theorem setStackWraps_hold (s : State) (v : Nat) : (s.setStackWraps v).hold = s.hold := rfl
@[simp] theorem setStackWraps_extTable (s : State) (v : Nat) : (s.setStackWraps v).extTable = s.extTable := rfl
@[simp] theorem setStackWraps_stackWraps (s : State) (v : Nat) : (s.setStackWraps v).stackWraps = v := rfl
@[simp] theorem setStackWraps_draws (s : State) (v : Nat) : (s.setStackWraps v).draws = s.draws := rfl

/-! Writing `draws` -/

@[simp] theorem setDraws_a (s : State) (v : Nat) : (s.setDraws v).a = s.a := rfl
@[simp] theorem setDraws_x (s : State) (v : Nat) : (s.setDraws v).x = s.x := rfl
@[simp] theorem setDraws_y (s : State) (v : Nat) : (s.setDraws v).y = s.y := rfl
@[simp] theorem setDraws_sp (s : State) (v : Nat) : (s.setDraws v).sp = s.sp := rfl
@[simp] theorem setDraws_pc (s : State) (v : Nat) : (s.setDraws v).pc = s.pc := rfl
@[simp] theorem setDraws_p (s : State) (v : Nat) : (s.setDraws v).p = s.p := rfl
@[simp] theorem setDraws_mem (s : State) (v : Nat) : (s.setDraws v).mem = s.mem := rfl
@[simp] theorem setDraws_run (s : State) (v : Nat) : (s.setDraws v).run = s.run := rfl
@[simp] theorem setDraws_stopRequested (s : State) (v : Nat) : (s.setDraws v).stopRequested = s.stopRequested := rfl
@[simp] theorem setDraws_faultLatch (s : State) (v : Nat) : (s.setDraws v).faultLatch = s.faultLatch := rfl
@[simp] theorem setDraws_hold (s : State) (v : Nat) : (s.setDraws v).hold = s.hold := rfl
@[simp] theorem setDraws_extTable (s : State) (v : Nat) : (s.setDraws v).extTable = s.extTable := rfl
@[simp] theorem setDraws_stackWraps (s : State) (v : Nat) : (s.setDraws v).stackWraps = s.stackWraps := rfl
@[simp] theorem setDraws_draws (s : State) (v : Nat) : (s.setDraws v).draws = v := rfl

end Sys2Proof.Machine
end

