-- ==== Sys2Proof/Laws/Memory.lean ====
section
/-! SUPPORT. The laws of memory: read after write, the canonical form is kept, what RESET leaves. -/

namespace Sys2Proof.Machine

theorem readCells_insertCell (j k : Nat) (v : Byte) (cs : List Host.Cell) :
    readCells j (insertCell k v cs) = if j = k then v else readCells j cs := by
  induction cs with
  | nil => by_cases h : j = k <;> simp [insertCell, readCells, h, eq_comm]
  | cons c cs ih =>
    by_cases hlt : k < c.1
    · by_cases h : j = k
      · simp [insertCell, hlt, readCells, h]
      · simp [insertCell, hlt, readCells, h, Ne.symm h]
    · by_cases heq : c.1 = k
      · by_cases h : j = k
        · simp [insertCell, heq, readCells, h]
        · simp [insertCell, heq, readCells, h, Ne.symm h]
      · by_cases hj : c.1 = j
        · subst hj
          simp [insertCell, hlt, heq, readCells]
        · simp [insertCell, hlt, heq, readCells, hj, ih]

theorem readCells_filter (j : Nat) (p : Nat → Bool) (cs : List Host.Cell) :
    readCells j (cs.filter fun c => p c.1) = if p j then readCells j cs else Memory.unlisted := by
  induction cs with
  | nil => simp [readCells]
  | cons c cs ih =>
    by_cases hc : p c.1 <;> by_cases hj : c.1 = j
    · subst hj; simp [hc, readCells]
    · simp [hc, readCells, hj, ih]
    · subst hj; simp [hc, ih]
    · simp [hc, readCells, hj, ih]

theorem readCells_writeCells (j k : Nat) (v : Byte) (cs : List Host.Cell) :
    readCells j (writeCells k v cs) = if j = k then v else readCells j cs := by
  unfold writeCells
  split
  next hv =>
    have h := readCells_filter j (fun n => decide (n ≠ k)) cs
    rw [h]
    by_cases hj : j = k <;> simp [hj, hv]
  next => exact readCells_insertCell j k v cs

/-- A read after a write: the written cell holds the value, every other cell is as before (R31, R32). -/
theorem Memory.read_write (m : Memory) (addr b : Word) (v : Byte) :
    (m.write addr v).read b = if b = addr then v else m.read b := by
  unfold Memory.write Memory.read
  by_cases ha : addr = Config.rndAddr
  · by_cases hb : b = Config.rndAddr
    · simp [ha, hb]
    · have : b ≠ addr := fun e => hb (e.trans ha)
      simp [ha, hb]
  · by_cases hb : b = Config.rndAddr
    · have : b ≠ addr := fun e => ha (e.symm.trans hb)
      simp [ha, hb, Ne.symm ha]
    · simp only [ha, hb, if_false, readCells_writeCells, BitVec.toNat_inj]

@[simp] theorem State.read_write (s : State) (addr b : Word) (v : Byte) :
    (s.write addr v).read b = if b = addr then v else s.read b := Memory.read_write _ _ _ _

@[simp] theorem State.read_mem (s : State) (b : Word) : s.mem.read b = s.read b := rfl

theorem mem_insertCell {c : Host.Cell} {k : Nat} {v : Byte} {cs : List Host.Cell}
    (h : c ∈ insertCell k v cs) : c = (k, v) ∨ c ∈ cs := by
  induction cs with
  | nil => simpa [insertCell] using h
  | cons d ds ih =>
    unfold insertCell at h
    split at h
    · simpa using h
    · split at h
      · rcases List.mem_cons.1 h with h | h
        · exact .inl h
        · exact .inr (List.mem_cons_of_mem _ h)
      · rcases List.mem_cons.1 h with h | h
        · exact .inr (h ▸ List.mem_cons_self ..)
        · exact (ih h).imp id (List.mem_cons_of_mem _)

theorem insertCell_rising {k : Nat} {v : Byte} {cs : List Host.Cell}
    (h : cs.Pairwise fun c d => c.1 < d.1) : (insertCell k v cs).Pairwise fun c d => c.1 < d.1 := by
  induction cs with
  | nil => simp [insertCell]
  | cons d ds ih =>
    obtain ⟨hd, hds⟩ := List.pairwise_cons.1 h
    unfold insertCell
    split
    next hlt =>
      refine List.pairwise_cons.2 ⟨fun e he => ?_, h⟩
      rcases List.mem_cons.1 he with rfl | he
      · exact hlt
      · exact hlt.trans (hd e he)
    next hlt =>
      split
      next heq => exact List.pairwise_cons.2 ⟨fun e he => heq ▸ hd e he, hds⟩
      next hne =>
        refine List.pairwise_cons.2 ⟨fun e he => ?_, ih hds⟩
        rcases mem_insertCell he with rfl | he
        · exact lt_of_le_of_ne (Nat.le_of_not_lt hlt) hne
        · exact hd e he

/-- A write keeps the canonical form. -/
theorem Memory.write_wf {m : Memory} (h : m.wf) (addr : Word) (v : Byte) : (m.write addr v).wf := by
  obtain ⟨hr, he⟩ := h
  unfold Memory.write
  split
  next => exact ⟨hr, he⟩
  next ha =>
    show ((writeCells addr.toNat v m.cells).Pairwise _) ∧ _
    unfold writeCells
    split
    next => exact ⟨hr.filter _, fun c hc => he c (List.mem_filter.1 hc).1⟩
    next hv =>
      refine ⟨insertCell_rising hr, fun c hc => ?_⟩
      rcases mem_insertCell hc with rfl | hc
      · exact ⟨addr.isLt, fun e => ha (BitVec.toNat_inj.1 e), hv⟩
      · exact he c hc

/-- Clearing the low cells keeps the canonical form. -/
theorem Memory.clearLow_wf {m : Memory} (h : m.wf) : m.clearLow.wf :=
  ⟨h.1.filter _, fun c hc => h.2 c (List.mem_filter.1 hc).1⟩

/-- What a cell reads after RESET has cleared the low cells (R241). -/
theorem Memory.read_clearLow (m : Memory) (b : Word) :
    m.clearLow.read b = if b.toNat < Config.resetClearEnd then 0x00#8 else m.read b := by
  unfold Memory.clearLow Memory.read
  by_cases hb : b = Config.rndAddr
  · subst hb; simp [Config.rndAddr, Config.resetClearEnd]
  · simp only [hb, if_false]
    have h := readCells_filter b.toNat (fun n => decide (Config.resetClearEnd ≤ n)) m.cells
    rw [h]
    by_cases hl : b.toNat < Config.resetClearEnd
    · simp [hl, Memory.unlisted]
    · simp [hl, Nat.le_of_not_lt hl]

/-- The empty memory is in canonical form. -/
theorem Memory.empty_wf (r : Byte) : Memory.wf { cells := [], rnd := r } := by simp [Memory.wf]

/-! What a write of memory leaves of the rest of the state. -/

@[simp] theorem write_a (s : State) (b : Word) (v : Byte) : (s.write b v).a = s.a := rfl
@[simp] theorem write_x (s : State) (b : Word) (v : Byte) : (s.write b v).x = s.x := rfl
@[simp] theorem write_y (s : State) (b : Word) (v : Byte) : (s.write b v).y = s.y := rfl
@[simp] theorem write_sp (s : State) (b : Word) (v : Byte) : (s.write b v).sp = s.sp := rfl
@[simp] theorem write_pc (s : State) (b : Word) (v : Byte) : (s.write b v).pc = s.pc := rfl
@[simp] theorem write_p (s : State) (b : Word) (v : Byte) : (s.write b v).p = s.p := rfl
@[simp] theorem write_mem (s : State) (b : Word) (v : Byte) : (s.write b v).mem = s.mem.write b v := rfl
@[simp] theorem write_run (s : State) (b : Word) (v : Byte) : (s.write b v).run = s.run := rfl
@[simp] theorem write_stopRequested (s : State) (b : Word) (v : Byte) :
    (s.write b v).stopRequested = s.stopRequested := rfl
@[simp] theorem write_faultLatch (s : State) (b : Word) (v : Byte) : (s.write b v).faultLatch = s.faultLatch := rfl
@[simp] theorem write_hold (s : State) (b : Word) (v : Byte) : (s.write b v).hold = s.hold := rfl
@[simp] theorem write_extTable (s : State) (b : Word) (v : Byte) : (s.write b v).extTable = s.extTable := rfl
@[simp] theorem write_stackWraps (s : State) (b : Word) (v : Byte) : (s.write b v).stackWraps = s.stackWraps := rfl
@[simp] theorem write_draws (s : State) (b : Word) (v : Byte) : (s.write b v).draws = s.draws := rfl

/-! A register write leaves every cell as it reads. -/

@[simp] theorem read_setA (s : State) (v : Byte) (b : Word) : (s.setA v).read b = s.read b := rfl
@[simp] theorem read_setX (s : State) (v : Byte) (b : Word) : (s.setX v).read b = s.read b := rfl
@[simp] theorem read_setY (s : State) (v : Byte) (b : Word) : (s.setY v).read b = s.read b := rfl
@[simp] theorem read_setSp (s : State) (v : Byte) (b : Word) : (s.setSp v).read b = s.read b := rfl
@[simp] theorem read_setPc (s : State) (v : Word) (b : Word) : (s.setPc v).read b = s.read b := rfl
@[simp] theorem read_setP (s : State) (v : Byte) (b : Word) : (s.setP v).read b = s.read b := rfl
@[simp] theorem read_setRun (s : State) (v : RunState) (b : Word) : (s.setRun v).read b = s.read b := rfl
@[simp] theorem read_setStopRequested (s : State) (v : Bool) (b : Word) :
    (s.setStopRequested v).read b = s.read b := rfl
@[simp] theorem read_setFaultLatch (s : State) (v : Option FaultRecord) (b : Word) :
    (s.setFaultLatch v).read b = s.read b := rfl
@[simp] theorem read_setHold (s : State) (v : HoldState) (b : Word) : (s.setHold v).read b = s.read b := rfl
@[simp] theorem read_setExtTable (s : State) (v : List Byte) (b : Word) : (s.setExtTable v).read b = s.read b := rfl
@[simp] theorem read_setStackWraps (s : State) (v : Nat) (b : Word) : (s.setStackWraps v).read b = s.read b := rfl
@[simp] theorem read_setDraws (s : State) (v : Nat) (b : Word) : (s.setDraws v).read b = s.read b := rfl

end Sys2Proof.Machine
end

