-- ==== Sys2Proof/Laws/Flags.lean ====
section
/-! SUPPORT. The laws of the flags: a flag write changes its one bit, `setSZ` and `compare` change theirs, and none of
them touches anything but P. -/

namespace Sys2Proof.Machine

theorem getLsbD_putBit (p : Byte) (i j : Nat) (b : Bool) (hi : i < 8) :
    (putBit p i b).getLsbD j = if j = i then b else p.getLsbD j := by
  by_cases hj : j = i
  · subst hj
    cases b <;> simp [putBit, hi]
  · by_cases h8 : j < 8
    · have hd : (decide (j < i) || !decide (j - i = 0)) = true := by
        rcases Nat.lt_or_gt_of_ne hj with h | h
        · simp [h]
        · simp; omega
      have hd' : (!decide (j < i) && decide (j - i = 0)) = false := by
        rw [← Bool.not_eq_true', Bool.not_and, Bool.not_not, hd]
      cases b <;> simp [putBit, hj, h8, hd']
    · simp [hj, Nat.le_of_not_lt h8]

theorem Flag.bit_lt (f : Flag) : f.bit < 8 := by cases f <;> decide

theorem Flag.bit_inj {f g : Flag} : f.bit = g.bit ↔ f = g := by cases f <;> cases g <;> decide

/-- A flag write changes that flag and no other. -/
@[simp] theorem flag_setFlag (s : State) (f g : Flag) (b : Bool) :
    (s.setFlag f b).flag g = if g = f then b else s.flag g := by
  simp only [State.setFlag, State.flag, setP_p, getLsbD_putBit _ _ _ _ f.bit_lt, Flag.bit_inj]

/-- A flag write leaves the reserved bits of P (R16). -/
theorem reserved_putBit (p : Byte) (f : Flag) (b : Bool) :
    putBit p f.bit b &&& reservedMask = p &&& reservedMask := by
  apply BitVec.eq_of_getLsbD_eq
  intro i hi
  have hm : ∀ g : Flag, reservedMask.getLsbD g.bit = false := by intro g; cases g <;> decide
  simp only [BitVec.getLsbD_and, getLsbD_putBit _ _ _ _ f.bit_lt]
  by_cases h : i = f.bit
  · subst h; simp [hm]
  · simp [h]

@[simp] theorem setFlag_reserved (s : State) (f : Flag) (b : Bool) :
    (s.setFlag f b).p &&& reservedMask = s.p &&& reservedMask := reserved_putBit s.p f b

@[simp] theorem setSZ_reserved (s : State) (v : Byte) :
    (s.setSZ v).p &&& reservedMask = s.p &&& reservedMask := by simp [State.setSZ]

/-- What `setSZ` does to every flag (R74). -/
@[simp] theorem flag_setSZ (s : State) (v : Byte) (f : Flag) :
    (s.setSZ v).flag f = if f = .n then v.getLsbD 7 else if f = .z then decide (v = 0x00#8) else s.flag f := by
  simp [State.setSZ]

theorem and_0x80_ne_zero (v : Byte) : v &&& 0x80#8 ≠ 0x00#8 ↔ v.getLsbD 7 = true := by
  revert v; decide

/-- A state whose Z and N are those of a byte shows them as R74's property says. -/
theorem showsSZ_of_flags {t : State} {v : Byte} (hz : t.flag .z = decide (v = 0x00#8)) (hn : t.flag .n = v.getLsbD 7) :
    ShowsSZ v t := by
  refine ⟨?_, ?_⟩
  · rw [State.zero, hz, decide_eq_true_iff]
  · rw [State.negative, hn, and_0x80_ne_zero]

theorem showsSZ_setSZ (s : State) (v : Byte) : ShowsSZ v (s.setSZ v) :=
  showsSZ_of_flags (by simp) (by simp)

/-- What `compare` does to every flag (R78). -/
@[simp] theorem flag_compare (s : State) (r o : Byte) (f : Flag) :
    (s.compare r o).flag f =
      if f = .n then (r - o).getLsbD 7 else if f = .z then decide (r - o = 0x00#8)
      else if f = .c then decide (o.toNat ≤ r.toNat) else s.flag f := by
  simp [State.compare]

@[simp] theorem compare_reserved (s : State) (r o : Byte) :
    (s.compare r o).p &&& reservedMask = s.p &&& reservedMask := by simp [State.compare]

/-- A flag query looks at P alone. -/
theorem flag_congr {s t : State} (h : t.p = s.p) (f : Flag) : t.flag f = s.flag f := by simp [State.flag, h]

/-! A flag operation writes P alone. -/

@[simp] theorem setFlag_a (s : State) (f : Flag) (b : Bool) : (s.setFlag f b).a = s.a := rfl
@[simp] theorem setFlag_x (s : State) (f : Flag) (b : Bool) : (s.setFlag f b).x = s.x := rfl
@[simp] theorem setFlag_y (s : State) (f : Flag) (b : Bool) : (s.setFlag f b).y = s.y := rfl
@[simp] theorem setFlag_sp (s : State) (f : Flag) (b : Bool) : (s.setFlag f b).sp = s.sp := rfl
@[simp] theorem setFlag_pc (s : State) (f : Flag) (b : Bool) : (s.setFlag f b).pc = s.pc := rfl
@[simp] theorem setFlag_mem (s : State) (f : Flag) (b : Bool) : (s.setFlag f b).mem = s.mem := rfl
@[simp] theorem setFlag_run (s : State) (f : Flag) (b : Bool) : (s.setFlag f b).run = s.run := rfl
@[simp] theorem setFlag_stopRequested (s : State) (f : Flag) (b : Bool) : (s.setFlag f b).stopRequested = s.stopRequested := rfl
@[simp] theorem setFlag_faultLatch (s : State) (f : Flag) (b : Bool) : (s.setFlag f b).faultLatch = s.faultLatch := rfl
@[simp] theorem setFlag_hold (s : State) (f : Flag) (b : Bool) : (s.setFlag f b).hold = s.hold := rfl
@[simp] theorem setFlag_extTable (s : State) (f : Flag) (b : Bool) : (s.setFlag f b).extTable = s.extTable := rfl
@[simp] theorem setFlag_stackWraps (s : State) (f : Flag) (b : Bool) : (s.setFlag f b).stackWraps = s.stackWraps := rfl
@[simp] theorem setFlag_draws (s : State) (f : Flag) (b : Bool) : (s.setFlag f b).draws = s.draws := rfl
@[simp] theorem read_setFlag (s : State) (f : Flag) (b : Bool) (w : Word) : (s.setFlag f b).read w = s.read w := rfl

@[simp] theorem setSZ_a (s : State) (v : Byte) : (s.setSZ v).a = s.a := rfl
@[simp] theorem setSZ_x (s : State) (v : Byte) : (s.setSZ v).x = s.x := rfl
@[simp] theorem setSZ_y (s : State) (v : Byte) : (s.setSZ v).y = s.y := rfl
@[simp] theorem setSZ_sp (s : State) (v : Byte) : (s.setSZ v).sp = s.sp := rfl
@[simp] theorem setSZ_pc (s : State) (v : Byte) : (s.setSZ v).pc = s.pc := rfl
@[simp] theorem setSZ_mem (s : State) (v : Byte) : (s.setSZ v).mem = s.mem := rfl
@[simp] theorem setSZ_run (s : State) (v : Byte) : (s.setSZ v).run = s.run := rfl
@[simp] theorem setSZ_stopRequested (s : State) (v : Byte) : (s.setSZ v).stopRequested = s.stopRequested := rfl
@[simp] theorem setSZ_faultLatch (s : State) (v : Byte) : (s.setSZ v).faultLatch = s.faultLatch := rfl
@[simp] theorem setSZ_hold (s : State) (v : Byte) : (s.setSZ v).hold = s.hold := rfl
@[simp] theorem setSZ_extTable (s : State) (v : Byte) : (s.setSZ v).extTable = s.extTable := rfl
@[simp] theorem setSZ_stackWraps (s : State) (v : Byte) : (s.setSZ v).stackWraps = s.stackWraps := rfl
@[simp] theorem setSZ_draws (s : State) (v : Byte) : (s.setSZ v).draws = s.draws := rfl
@[simp] theorem read_setSZ (s : State) (v : Byte) (w : Word) : (s.setSZ v).read w = s.read w := rfl

@[simp] theorem compare_a (s : State) (r o : Byte) : (s.compare r o).a = s.a := rfl
@[simp] theorem compare_x (s : State) (r o : Byte) : (s.compare r o).x = s.x := rfl
@[simp] theorem compare_y (s : State) (r o : Byte) : (s.compare r o).y = s.y := rfl
@[simp] theorem compare_sp (s : State) (r o : Byte) : (s.compare r o).sp = s.sp := rfl
@[simp] theorem compare_pc (s : State) (r o : Byte) : (s.compare r o).pc = s.pc := rfl
@[simp] theorem compare_mem (s : State) (r o : Byte) : (s.compare r o).mem = s.mem := rfl
@[simp] theorem compare_run (s : State) (r o : Byte) : (s.compare r o).run = s.run := rfl
@[simp] theorem compare_stopRequested (s : State) (r o : Byte) : (s.compare r o).stopRequested = s.stopRequested := rfl
@[simp] theorem compare_faultLatch (s : State) (r o : Byte) : (s.compare r o).faultLatch = s.faultLatch := rfl
@[simp] theorem compare_hold (s : State) (r o : Byte) : (s.compare r o).hold = s.hold := rfl
@[simp] theorem compare_extTable (s : State) (r o : Byte) : (s.compare r o).extTable = s.extTable := rfl
@[simp] theorem compare_stackWraps (s : State) (r o : Byte) : (s.compare r o).stackWraps = s.stackWraps := rfl
@[simp] theorem compare_draws (s : State) (r o : Byte) : (s.compare r o).draws = s.draws := rfl
@[simp] theorem read_compare (s : State) (r o : Byte) (w : Word) : (s.compare r o).read w = s.read w := rfl

/-! A write to anything but P leaves the flags. -/

@[simp] theorem flag_setA (s : State) (v : Byte) (g : Flag) : (s.setA v).flag g = s.flag g := rfl
@[simp] theorem flag_setX (s : State) (v : Byte) (g : Flag) : (s.setX v).flag g = s.flag g := rfl
@[simp] theorem flag_setY (s : State) (v : Byte) (g : Flag) : (s.setY v).flag g = s.flag g := rfl
@[simp] theorem flag_setSp (s : State) (v : Byte) (g : Flag) : (s.setSp v).flag g = s.flag g := rfl
@[simp] theorem flag_setPc (s : State) (v : Word) (g : Flag) : (s.setPc v).flag g = s.flag g := rfl
@[simp] theorem flag_setMem (s : State) (v : Memory) (g : Flag) : (s.setMem v).flag g = s.flag g := rfl
@[simp] theorem flag_setRun (s : State) (v : RunState) (g : Flag) : (s.setRun v).flag g = s.flag g := rfl
@[simp] theorem flag_setStopRequested (s : State) (v : Bool) (g : Flag) : (s.setStopRequested v).flag g = s.flag g := rfl
@[simp] theorem flag_setFaultLatch (s : State) (v : Option FaultRecord) (g : Flag) : (s.setFaultLatch v).flag g = s.flag g := rfl
@[simp] theorem flag_setHold (s : State) (v : HoldState) (g : Flag) : (s.setHold v).flag g = s.flag g := rfl
@[simp] theorem flag_setExtTable (s : State) (v : List Byte) (g : Flag) : (s.setExtTable v).flag g = s.flag g := rfl
@[simp] theorem flag_setStackWraps (s : State) (v : Nat) (g : Flag) : (s.setStackWraps v).flag g = s.flag g := rfl
@[simp] theorem flag_setDraws (s : State) (v : Nat) (g : Flag) : (s.setDraws v).flag g = s.flag g := rfl
@[simp] theorem flag_write (s : State) (w : Word) (v : Byte) (g : Flag) : (s.write w v).flag g = s.flag g := rfl

end Sys2Proof.Machine
end

