-- ==== Sys2Proof/Laws/Ops.lean ====
section
/-! SUPPORT. What each shared operation can do, said once: consuming operand bytes, the stack, the end of a step, taking a
fault, RESET. -/

namespace Sys2Proof.Machine

/-! ## Consuming operand bytes (R14, R72) -/

@[simp] theorem consume_pc (s : State) (n : Word) : (s.consume n).pc = s.pc + n := rfl
@[simp] theorem consume_a (s : State) (n : Word) : (s.consume n).a = s.a := rfl
@[simp] theorem consume_x (s : State) (n : Word) : (s.consume n).x = s.x := rfl
@[simp] theorem consume_y (s : State) (n : Word) : (s.consume n).y = s.y := rfl
@[simp] theorem consume_sp (s : State) (n : Word) : (s.consume n).sp = s.sp := rfl
@[simp] theorem consume_p (s : State) (n : Word) : (s.consume n).p = s.p := rfl
@[simp] theorem consume_mem (s : State) (n : Word) : (s.consume n).mem = s.mem := rfl
@[simp] theorem consume_run (s : State) (n : Word) : (s.consume n).run = s.run := rfl
@[simp] theorem consume_stopRequested (s : State) (n : Word) : (s.consume n).stopRequested = s.stopRequested := rfl
@[simp] theorem consume_faultLatch (s : State) (n : Word) : (s.consume n).faultLatch = s.faultLatch := rfl
@[simp] theorem consume_hold (s : State) (n : Word) : (s.consume n).hold = s.hold := rfl
@[simp] theorem consume_extTable (s : State) (n : Word) : (s.consume n).extTable = s.extTable := rfl
@[simp] theorem consume_stackWraps (s : State) (n : Word) : (s.consume n).stackWraps = s.stackWraps := rfl
@[simp] theorem consume_draws (s : State) (n : Word) : (s.consume n).draws = s.draws := rfl
@[simp] theorem consume_read (s : State) (n b : Word) : (s.consume n).read b = s.read b := rfl
@[simp] theorem consume_flag (s : State) (n : Word) (f : Flag) : (s.consume n).flag f = s.flag f := rfl

/-- `popWord` reads two bytes, low byte first, and moves PC by two (R73). -/
theorem popWord_eq (s : State) :
    s.popWord = (wordOf (s.read s.pc) (s.read (s.pc + 1#16)), s.consume 2#16) := by
  have h2 : s.pc + 1#16 + 1#16 = s.pc + 2#16 := by rw [BitVec.add_assoc]; rfl
  have h1 : (s.consume 1#16).consume 1#16 = s.consume 2#16 := congrArg s.setPc h2
  simp only [State.popWord, State.popByte, consume_read, consume_pc, h1]

/-! ## The stack (R80 to R82) -/

/-- `push` in one equation. -/
theorem push_eq (s : State) (v : Byte) :
    s.push v = ((s.write (stackAddr s.sp) v).setStackWraps (s.stackWraps + if s.sp = 0x00#8 then 1 else 0)).setSp (s.sp - 1#8) := by
  unfold State.push
  by_cases h : s.sp = 0x00#8
  · simp [h, State.emitStackWrap]
  · simp only [h, if_false]; rfl

/-- `pop` in one equation. -/
theorem popState_eq (s : State) :
    s.popState = (s.setStackWraps (s.stackWraps + if s.sp = 0xFF#8 then 1 else 0)).setSp (s.sp + 1#8) := by
  unfold State.popState
  by_cases h : s.sp = 0xFF#8
  · simp [h, State.emitStackWrap]
  · simp only [h, if_false]; rfl

@[simp] theorem push_sp (s : State) (v : Byte) : (s.push v).sp = s.sp - 1#8 := by simp [push_eq]
@[simp] theorem push_read (s : State) (v : Byte) (b : Word) :
    (s.push v).read b = if b = stackAddr s.sp then v else s.read b := by simp [push_eq]
@[simp] theorem push_stackWraps (s : State) (v : Byte) :
    (s.push v).stackWraps = s.stackWraps + if s.sp = 0x00#8 then 1 else 0 := by simp [push_eq]
@[simp] theorem push_mem (s : State) (v : Byte) : (s.push v).mem = s.mem.write (stackAddr s.sp) v := by
  simp [push_eq]
@[simp] theorem push_flag (s : State) (v : Byte) (f : Flag) : (s.push v).flag f = s.flag f := by simp [push_eq]
@[simp] theorem push_a (s : State) (v : Byte) : (s.push v).a = s.a := by simp [push_eq]
@[simp] theorem push_x (s : State) (v : Byte) : (s.push v).x = s.x := by simp [push_eq]
@[simp] theorem push_y (s : State) (v : Byte) : (s.push v).y = s.y := by simp [push_eq]
@[simp] theorem push_pc (s : State) (v : Byte) : (s.push v).pc = s.pc := by simp [push_eq]
@[simp] theorem push_p (s : State) (v : Byte) : (s.push v).p = s.p := by simp [push_eq]
@[simp] theorem push_run (s : State) (v : Byte) : (s.push v).run = s.run := by simp [push_eq]
@[simp] theorem push_stopRequested (s : State) (v : Byte) : (s.push v).stopRequested = s.stopRequested := by simp [push_eq]
@[simp] theorem push_faultLatch (s : State) (v : Byte) : (s.push v).faultLatch = s.faultLatch := by simp [push_eq]
@[simp] theorem push_hold (s : State) (v : Byte) : (s.push v).hold = s.hold := by simp [push_eq]
@[simp] theorem push_extTable (s : State) (v : Byte) : (s.push v).extTable = s.extTable := by simp [push_eq]
@[simp] theorem push_draws (s : State) (v : Byte) : (s.push v).draws = s.draws := by simp [push_eq]

@[simp] theorem popState_sp (s : State) : s.popState.sp = s.sp + 1#8 := by simp [popState_eq]
@[simp] theorem popState_read (s : State) (b : Word) : s.popState.read b = s.read b := by simp [popState_eq]
@[simp] theorem popState_stackWraps (s : State) :
    s.popState.stackWraps = s.stackWraps + if s.sp = 0xFF#8 then 1 else 0 := by simp [popState_eq]
@[simp] theorem popState_flag (s : State) (f : Flag) : s.popState.flag f = s.flag f := by simp [popState_eq]
@[simp] theorem popState_a (s : State) : s.popState.a = s.a := by simp [popState_eq]
@[simp] theorem popState_x (s : State) : s.popState.x = s.x := by simp [popState_eq]
@[simp] theorem popState_y (s : State) : s.popState.y = s.y := by simp [popState_eq]
@[simp] theorem popState_pc (s : State) : s.popState.pc = s.pc := by simp [popState_eq]
@[simp] theorem popState_p (s : State) : s.popState.p = s.p := by simp [popState_eq]
@[simp] theorem popState_mem (s : State) : s.popState.mem = s.mem := by simp [popState_eq]
@[simp] theorem popState_run (s : State) : s.popState.run = s.run := by simp [popState_eq]
@[simp] theorem popState_stopRequested (s : State) : s.popState.stopRequested = s.stopRequested := by simp [popState_eq]
@[simp] theorem popState_faultLatch (s : State) : s.popState.faultLatch = s.faultLatch := by simp [popState_eq]
@[simp] theorem popState_hold (s : State) : s.popState.hold = s.hold := by simp [popState_eq]
@[simp] theorem popState_extTable (s : State) : s.popState.extTable = s.extTable := by simp [popState_eq]
@[simp] theorem popState_draws (s : State) : s.popState.draws = s.draws := by simp [popState_eq]

/-- The byte `pop` returns (R81). -/
theorem popValue_eq (s : State) : s.popValue = s.read (stackAddr (s.sp + 1#8)) := by simp [State.popValue]

theorem zext16_inj {a b : Byte} : zext16 a = zext16 b ↔ a = b := by
  constructor
  · intro h
    have := congrArg BitVec.toNat h
    simp only [zext16, BitVec.toNat_setWidth] at this
    have ha := a.isLt
    have hb := b.isLt
    exact BitVec.eq_of_toNat_eq (by omega)
  · rintro rfl; rfl

/-- The stack cells of different stack pointers are different cells. -/
theorem stackAddr_inj {a b : Byte} : stackAddr a = stackAddr b ↔ a = b := by
  simp [stackAddr, zext16_inj]

/-- The stack page does not hold the random-byte cell. -/
theorem stackAddr_ne_rndAddr (a : Byte) : stackAddr a ≠ Config.rndAddr := by
  revert a; decide

/-! ## The end of a step, faults, RESET -/

@[simp] theorem stopEngine_a (s : State) : (s.stopEngine).a = s.a := rfl
@[simp] theorem stopEngine_x (s : State) : (s.stopEngine).x = s.x := rfl
@[simp] theorem stopEngine_y (s : State) : (s.stopEngine).y = s.y := rfl
@[simp] theorem stopEngine_sp (s : State) : (s.stopEngine).sp = s.sp := rfl
@[simp] theorem stopEngine_pc (s : State) : (s.stopEngine).pc = s.pc := rfl
@[simp] theorem stopEngine_p (s : State) : (s.stopEngine).p = s.p := rfl
@[simp] theorem stopEngine_mem (s : State) : (s.stopEngine).mem = s.mem := rfl
@[simp] theorem stopEngine_faultLatch (s : State) : (s.stopEngine).faultLatch = s.faultLatch := rfl
@[simp] theorem stopEngine_hold (s : State) : (s.stopEngine).hold = s.hold := rfl
@[simp] theorem stopEngine_extTable (s : State) : (s.stopEngine).extTable = s.extTable := rfl
@[simp] theorem stopEngine_stackWraps (s : State) : (s.stopEngine).stackWraps = s.stackWraps := rfl
@[simp] theorem stopEngine_draws (s : State) : (s.stopEngine).draws = s.draws := rfl
@[simp] theorem stopEngine_run (s : State) : s.stopEngine.run = .stopped := rfl
@[simp] theorem stopEngine_stopRequested (s : State) : s.stopEngine.stopRequested = false := rfl
@[simp] theorem stopEngine_read (s : State) (b : Word) : s.stopEngine.read b = s.read b := rfl
@[simp] theorem stopEngine_flag (s : State) (f : Flag) : s.stopEngine.flag f = s.flag f := rfl

@[simp] theorem takeFault_a (s : State) (r : FaultRecord) : (s.takeFault r).a = s.a := rfl
@[simp] theorem takeFault_x (s : State) (r : FaultRecord) : (s.takeFault r).x = s.x := rfl
@[simp] theorem takeFault_y (s : State) (r : FaultRecord) : (s.takeFault r).y = s.y := rfl
@[simp] theorem takeFault_sp (s : State) (r : FaultRecord) : (s.takeFault r).sp = s.sp := rfl
@[simp] theorem takeFault_pc (s : State) (r : FaultRecord) : (s.takeFault r).pc = s.pc := rfl
@[simp] theorem takeFault_p (s : State) (r : FaultRecord) : (s.takeFault r).p = s.p := rfl
@[simp] theorem takeFault_mem (s : State) (r : FaultRecord) : (s.takeFault r).mem = s.mem := rfl
@[simp] theorem takeFault_hold (s : State) (r : FaultRecord) : (s.takeFault r).hold = s.hold := rfl
@[simp] theorem takeFault_extTable (s : State) (r : FaultRecord) : (s.takeFault r).extTable = s.extTable := rfl
@[simp] theorem takeFault_stackWraps (s : State) (r : FaultRecord) : (s.takeFault r).stackWraps = s.stackWraps := rfl
@[simp] theorem takeFault_draws (s : State) (r : FaultRecord) : (s.takeFault r).draws = s.draws := rfl
@[simp] theorem takeFault_run (s : State) (r : FaultRecord) : (s.takeFault r).run = .stopped := rfl
@[simp] theorem takeFault_stopRequested (s : State) (r : FaultRecord) : (s.takeFault r).stopRequested = false := rfl
@[simp] theorem takeFault_faultLatch (s : State) (r : FaultRecord) : (s.takeFault r).faultLatch = some r := rfl
@[simp] theorem takeFault_read (s : State) (r : FaultRecord) (b : Word) : (s.takeFault r).read b = s.read b := rfl
@[simp] theorem takeFault_flag (s : State) (r : FaultRecord) (f : Flag) : (s.takeFault r).flag f = s.flag f := rfl

/-- The halt condition answers the state itself or the stopped engine (R71). -/
theorem haltCheck_cases (s : State) :
    s.haltCheck = s.stopEngine ∧ (s.pc = 0x0000#16 ∨ s.stopRequested = true) ∨
      s.haltCheck = s ∧ s.pc ≠ 0x0000#16 ∧ s.stopRequested = false := by
  unfold State.haltCheck
  by_cases hp : s.pc = 0x0000#16 <;> cases hr : s.stopRequested <;> simp [Config.haltOnPcZero, hp]

/-- A stop request does not outlive the halt condition. -/
@[simp] theorem haltCheck_stopRequested (s : State) : s.haltCheck.stopRequested = false := by
  rcases haltCheck_cases s with ⟨h, -⟩ | ⟨h, -, hr⟩ <;> simp [h]
  exact hr

@[simp] theorem haltCheck_a (s : State) : s.haltCheck.a = s.a := by
  rcases haltCheck_cases s with ⟨h, -⟩ | ⟨h, -⟩ <;> simp [h]
@[simp] theorem haltCheck_x (s : State) : s.haltCheck.x = s.x := by
  rcases haltCheck_cases s with ⟨h, -⟩ | ⟨h, -⟩ <;> simp [h]
@[simp] theorem haltCheck_y (s : State) : s.haltCheck.y = s.y := by
  rcases haltCheck_cases s with ⟨h, -⟩ | ⟨h, -⟩ <;> simp [h]
@[simp] theorem haltCheck_sp (s : State) : s.haltCheck.sp = s.sp := by
  rcases haltCheck_cases s with ⟨h, -⟩ | ⟨h, -⟩ <;> simp [h]
@[simp] theorem haltCheck_pc (s : State) : s.haltCheck.pc = s.pc := by
  rcases haltCheck_cases s with ⟨h, -⟩ | ⟨h, -⟩ <;> simp [h]
@[simp] theorem haltCheck_p (s : State) : s.haltCheck.p = s.p := by
  rcases haltCheck_cases s with ⟨h, -⟩ | ⟨h, -⟩ <;> simp [h]
@[simp] theorem haltCheck_mem (s : State) : s.haltCheck.mem = s.mem := by
  rcases haltCheck_cases s with ⟨h, -⟩ | ⟨h, -⟩ <;> simp [h]
@[simp] theorem haltCheck_faultLatch (s : State) : s.haltCheck.faultLatch = s.faultLatch := by
  rcases haltCheck_cases s with ⟨h, -⟩ | ⟨h, -⟩ <;> simp [h]
@[simp] theorem haltCheck_hold (s : State) : s.haltCheck.hold = s.hold := by
  rcases haltCheck_cases s with ⟨h, -⟩ | ⟨h, -⟩ <;> simp [h]
@[simp] theorem haltCheck_extTable (s : State) : s.haltCheck.extTable = s.extTable := by
  rcases haltCheck_cases s with ⟨h, -⟩ | ⟨h, -⟩ <;> simp [h]
@[simp] theorem haltCheck_stackWraps (s : State) : s.haltCheck.stackWraps = s.stackWraps := by
  rcases haltCheck_cases s with ⟨h, -⟩ | ⟨h, -⟩ <;> simp [h]
@[simp] theorem haltCheck_draws (s : State) : s.haltCheck.draws = s.draws := by
  rcases haltCheck_cases s with ⟨h, -⟩ | ⟨h, -⟩ <;> simp [h]
@[simp] theorem haltCheck_read (s : State) (b : Word) : s.haltCheck.read b = s.read b := by
  rcases haltCheck_cases s with ⟨h, -⟩ | ⟨h, -⟩ <;> simp [h]
@[simp] theorem haltCheck_flag (s : State) (f : Flag) : s.haltCheck.flag f = s.flag f := by
  rcases haltCheck_cases s with ⟨h, -⟩ | ⟨h, -⟩ <;> simp [h]

/-- What RESET leaves, field by field (R241, R244). -/
theorem performReset_eq (s : State) :
    s.performReset =
      { s with
        a := 0x00#8, x := 0x00#8, y := 0x00#8, pc := Config.resetPc, sp := Config.resetSp, p := Config.resetP,
        mem := s.mem.clearLow, faultLatch := none } := rfl

end Sys2Proof.Machine
end

