-- ==== Sys2Proof/Laws/Exec.lean ====
section
/-! SUPPORT. What each family's shared template does, said once: the value it writes, the flags, PC, and the frame. Every
meaning is one application of a template, so a statement about a form cites its template's lemma. -/

namespace Sys2Proof.Machine

theorem loadA_spec (src : Src) (s : State) :
    ∃ t, loadA src s = .next t ∧ t.a = src.value s ∧ ShowsSZ (src.value s) t ∧
      t.pc = s.pc + src.operandBytes ∧ KeepsAllBut [.a, .flag .z, .flag .n, .pc] s t := by
  refine ⟨_, rfl, by simp, showsSZ_setSZ _ _, by simp, ?_⟩
  intro q hq
  cases q <;> simp_all [Part.Same]

theorem loadX_spec (src : Src) (s : State) :
    ∃ t, loadX src s = .next t ∧ t.x = src.value s ∧ ShowsSZ (src.value s) t ∧
      t.pc = s.pc + src.operandBytes ∧ KeepsAllBut [.x, .flag .z, .flag .n, .pc] s t := by
  refine ⟨_, rfl, by simp, showsSZ_setSZ _ _, by simp, ?_⟩
  intro q hq
  cases q <;> simp_all [Part.Same]
theorem loadY_spec (src : Src) (s : State) :
    ∃ t, loadY src s = .next t ∧ t.y = src.value s ∧ ShowsSZ (src.value s) t ∧
      t.pc = s.pc + src.operandBytes ∧ KeepsAllBut [.y, .flag .z, .flag .n, .pc] s t := by
  refine ⟨_, rfl, by simp, showsSZ_setSZ _ _, by simp, ?_⟩
  intro q hq
  cases q <;> simp_all [Part.Same]

theorem storeByte_spec (v : Byte) (m : MemMode) (s : State) :
    ∃ t, storeByte v m s = .next t ∧ t.read (m.ea s) = v ∧ t.pc = s.pc + m.operandBytes ∧
      KeepsAllBut [.cell (m.ea s), .pc] s t := by
  refine ⟨_, rfl, by simp, by simp, ?_⟩
  intro q hq
  cases q <;> simp_all [Part.Same]

theorem modifyByte_spec (f : Byte → Byte) (m : MemMode) (s : State) :
    ∃ t, modifyByte f m s = .next t ∧ t.read (m.ea s) = f (s.read (m.ea s)) ∧ ShowsSZ (t.read (m.ea s)) t ∧
      t.pc = s.pc + m.operandBytes ∧ KeepsAllBut [.cell (m.ea s), .flag .z, .flag .n, .pc] s t := by
  refine ⟨_, rfl, by simp, by simpa using showsSZ_setSZ _ _, by simp, ?_⟩
  intro q hq
  cases q <;> simp_all [Part.Same]

theorem logicA_spec (f : Byte → Byte → Byte) (src : Src) (s : State) :
    ∃ t, logicA f src s = .next t ∧ t.a = f s.a (src.value s) ∧ ShowsSZ t.a t ∧
      t.pc = s.pc + src.operandBytes ∧ KeepsAllBut [.a, .flag .z, .flag .n, .pc] s t := by
  refine ⟨_, rfl, by simp, by simpa using showsSZ_setSZ _ _, by simp, ?_⟩
  intro q hq
  cases q <;> simp_all [Part.Same]

theorem bitTest_spec (src : Src) (s : State) :
    ∃ t, bitTest src s = .next t ∧ (t.zero = true ↔ s.a &&& src.value s = 0x00#8) ∧
      t.negative = (src.value s).getLsbD 7 ∧ t.overflow = (src.value s).getLsbD 6 ∧
      t.pc = s.pc + src.operandBytes ∧ KeepsAllBut [.flag .z, .flag .n, .flag .v, .pc] s t := by
  refine ⟨_, rfl, by simp [State.zero], by simp [State.negative], by simp [State.overflow], by simp, ?_⟩
  intro q hq
  cases q <;> simp_all [Part.Same]

theorem compareReg_spec (r : Byte) (src : Src) (s : State) :
    ∃ t, compareReg r src s = .next t ∧ (t.carry = true ↔ (src.value s).toNat ≤ r.toNat) ∧
      (t.zero = true ↔ r = src.value s) ∧ t.negative = (r - src.value s).getLsbD 7 ∧
      t.pc = s.pc + src.operandBytes ∧ KeepsAllBut [.flag .c, .flag .z, .flag .n, .pc] s t := by
  refine ⟨_, rfl, by simp [State.carry], ?_, by simp [State.negative], by simp, ?_⟩
  · rw [← sub_eq_zero (a := r)]; simp [State.zero]
  intro q hq
  cases q <;> simp_all [Part.Same]

theorem shiftByte_acc_spec (f : Byte → Bool → ShiftResult) (s : State) :
    ∃ t, shiftByte f .acc s = .next t ∧ t.a = (f s.a s.carry).value ∧ t.carry = (f s.a s.carry).carry ∧
      ShowsSZ t.a t ∧ KeepsAllBut [.a, .flag .c, .flag .z, .flag .n] s t := by
  refine ⟨_, rfl, by simp, by simp [State.carry], showsSZ_setSZ _ _, ?_⟩
  intro q hq
  cases q <;> simp_all [Part.Same]

theorem shiftByte_mem_spec (f : Byte → Bool → ShiftResult) (m : MemMode) (s : State) :
    ∃ t, shiftByte f (.mem m) s = .next t ∧ t.read (m.ea s) = (f (s.read (m.ea s)) s.carry).value ∧
      t.carry = (f (s.read (m.ea s)) s.carry).carry ∧ ShowsSZ (t.read (m.ea s)) t ∧
      t.pc = s.pc + m.operandBytes ∧ KeepsAllBut [.cell (m.ea s), .flag .c, .flag .z, .flag .n, .pc] s t := by
  refine ⟨_, rfl, by simp, by simp [State.carry], by simpa using showsSZ_setSZ _ _, by simp, ?_⟩
  intro q hq
  cases q <;> simp_all [Part.Same]

theorem arithA_binary_spec (op : ArithOp) (g : Byte → Byte → Bool → ArithResult) (src : Src) (s : State)
    (h : s.decimalMode = false) :
    ∃ t, arithA op g src s = .next t ∧ t.a = (g s.a (src.value s) s.carry).value ∧
      t.carry = (g s.a (src.value s) s.carry).carry ∧ t.overflow = (g s.a (src.value s) s.carry).overflow ∧
      ShowsSZ t.a t ∧ t.pc = s.pc + src.operandBytes ∧
      KeepsAllBut [.a, .flag .c, .flag .v, .flag .z, .flag .n, .pc] s t := by
  refine ⟨(s.consume src.operandBytes).putArith (g s.a (src.value s) s.carry), by simp [arithA, h], by simp [State.putArith],
    by simp [State.putArith, State.carry], by simp [State.putArith, State.overflow],
    showsSZ_setSZ _ _, by simp [State.putArith], ?_⟩
  intro q hq
  cases q <;> simp_all [Part.Same, State.putArith]

theorem arithA_decimal_spec (op : ArithOp) (g : Byte → Byte → Bool → ArithResult) (src : Src) (s : State)
    (h : s.decimalMode = true) :
    ∃ t, arithA op g src s = .next t ∧ t.pc = s.pc + src.operandBytes ∧ t.decimalMode = true ∧
      KeepsAllBut [.a, .flag .c, .flag .v, .flag .z, .flag .n, .pc] s t := by
  refine ⟨_, by simp [arithA, h]; rfl, by simp [State.putDecimal],
    by simpa [State.putDecimal, State.decimalMode] using h, ?_⟩
  intro q hq
  cases q <;> simp_all [Part.Same, State.putDecimal]

theorem branchIf_spec (c : Bool) (rel : Byte) (s : State) :
    ∃ t, branchIf c rel s = .next t ∧ t.pc = (if c then branchTarget (s.pc + 1#16) rel else s.pc + 1#16) ∧
      KeepsAllBut [.pc] s t := by
  refine ⟨_, rfl, ?_, ?_⟩
  · cases c <;> simp [State.jumpBranch]
  intro q hq
  cases c <;> cases q <;> simp_all [Part.Same, State.jumpBranch]

end Sys2Proof.Machine
end

