-- ==== Sys2Proof/Laws/Engine.lean ====
section
/-! SUPPORT. What no instruction changes, and what a step and a host move can answer, said once. -/

namespace Sys2Proof.Machine

/-! ## The random byte (R39, R70) -/

@[simp] theorem writeRandom_a (s : State) (r : Byte) : (s.writeRandom r).a = s.a := rfl
@[simp] theorem writeRandom_x (s : State) (r : Byte) : (s.writeRandom r).x = s.x := rfl
@[simp] theorem writeRandom_y (s : State) (r : Byte) : (s.writeRandom r).y = s.y := rfl
@[simp] theorem writeRandom_sp (s : State) (r : Byte) : (s.writeRandom r).sp = s.sp := rfl
@[simp] theorem writeRandom_pc (s : State) (r : Byte) : (s.writeRandom r).pc = s.pc := rfl
@[simp] theorem writeRandom_p (s : State) (r : Byte) : (s.writeRandom r).p = s.p := rfl
@[simp] theorem writeRandom_mem (s : State) (r : Byte) : (s.writeRandom r).mem = s.mem.write Config.rndAddr r := rfl
@[simp] theorem writeRandom_run (s : State) (r : Byte) : (s.writeRandom r).run = s.run := rfl
@[simp] theorem writeRandom_stopRequested (s : State) (r : Byte) : (s.writeRandom r).stopRequested = s.stopRequested := rfl
@[simp] theorem writeRandom_faultLatch (s : State) (r : Byte) : (s.writeRandom r).faultLatch = s.faultLatch := rfl
@[simp] theorem writeRandom_hold (s : State) (r : Byte) : (s.writeRandom r).hold = s.hold := rfl
@[simp] theorem writeRandom_extTable (s : State) (r : Byte) : (s.writeRandom r).extTable = s.extTable := rfl
@[simp] theorem writeRandom_stackWraps (s : State) (r : Byte) : (s.writeRandom r).stackWraps = s.stackWraps := rfl
@[simp] theorem writeRandom_draws (s : State) (r : Byte) : (s.writeRandom r).draws = s.draws := rfl
@[simp] theorem writeRandom_flag (s : State) (r : Byte) (f : Flag) : (s.writeRandom r).flag f = s.flag f := rfl
@[simp] theorem writeRandom_read (s : State) (r : Byte) (b : Word) :
    (s.writeRandom r).read b = if b = Config.rndAddr then r else s.read b := State.read_write s _ b r

/-- What every instruction leaves: RUN, FAULT, HOLD, EXT_TABLE, the draw counter, the reserved bits of P (R16), and the
canonical form of memory. -/
structure KeepsEngine (s t : State) : Prop where
  run : t.run = s.run
  fault : t.faultLatch = s.faultLatch
  hold : t.hold = s.hold
  ext : t.extTable = s.extTable
  draws : t.draws = s.draws
  reserved : t.p &&& reservedMask = s.p &&& reservedMask
  memory : s.mem.wf → t.mem.wf

/-- An instruction that leaves the engine's state, a pending stop request with it. -/
def Quiet (s t : State) : Prop := KeepsEngine s t ∧ t.stopRequested = s.stopRequested

theorem quiet_of_write {s t : State} (hr : t.run = s.run) (hf : t.faultLatch = s.faultLatch) (hh : t.hold = s.hold)
    (he : t.extTable = s.extTable) (hd : t.draws = s.draws) (hs : t.stopRequested = s.stopRequested)
    (hp : t.p &&& reservedMask = s.p &&& reservedMask) (addr : Word) (v : Byte) (hm : t.mem = s.mem.write addr v) :
    Quiet s t :=
  ⟨⟨hr, hf, hh, he, hd, hp, fun h => hm ▸ Memory.write_wf h addr v⟩, hs⟩

theorem quiet_of_same_mem {s t : State} (hr : t.run = s.run) (hf : t.faultLatch = s.faultLatch) (hh : t.hold = s.hold)
    (he : t.extTable = s.extTable) (hd : t.draws = s.draws) (hs : t.stopRequested = s.stopRequested)
    (hp : t.p &&& reservedMask = s.p &&& reservedMask) (hm : t.mem = s.mem) : Quiet s t :=
  ⟨⟨hr, hf, hh, he, hd, hp, fun h => hm ▸ h⟩, hs⟩

theorem loadA_quiet {s t : State} {src : Src}
    (h : loadA src s = .next t) : Quiet s t := by
  injection h with h; subst h
  exact quiet_of_same_mem rfl rfl rfl rfl rfl rfl (by simp) rfl

theorem loadX_quiet {s t : State} {src : Src}
    (h : loadX src s = .next t) : Quiet s t := by
  injection h with h; subst h
  exact quiet_of_same_mem rfl rfl rfl rfl rfl rfl (by simp) rfl

theorem loadY_quiet {s t : State} {src : Src}
    (h : loadY src s = .next t) : Quiet s t := by
  injection h with h; subst h
  exact quiet_of_same_mem rfl rfl rfl rfl rfl rfl (by simp) rfl

theorem storeByte_quiet {s t : State} {v : Byte} {m : MemMode}
    (h : storeByte v m s = .next t) : Quiet s t := by
  injection h with h; subst h
  exact quiet_of_write rfl rfl rfl rfl rfl rfl rfl _ _ rfl

theorem modifyByte_quiet {s t : State} {f : Byte → Byte} {m : MemMode}
    (h : modifyByte f m s = .next t) : Quiet s t := by
  injection h with h; subst h
  exact quiet_of_write rfl rfl rfl rfl rfl rfl (by simp) _ _ rfl

theorem logicA_quiet {s t : State} {f : Byte → Byte → Byte} {src : Src}
    (h : logicA f src s = .next t) : Quiet s t := by
  injection h with h; subst h
  exact quiet_of_same_mem rfl rfl rfl rfl rfl rfl (by simp) rfl

theorem bitTest_quiet {s t : State} {src : Src}
    (h : bitTest src s = .next t) : Quiet s t := by
  injection h with h; subst h
  exact quiet_of_same_mem rfl rfl rfl rfl rfl rfl (by simp) rfl

theorem compareReg_quiet {s t : State} {r : Byte} {src : Src}
    (h : compareReg r src s = .next t) : Quiet s t := by
  injection h with h; subst h
  exact quiet_of_same_mem rfl rfl rfl rfl rfl rfl (by simp) rfl

theorem arithA_quiet {s t : State} {op : ArithOp} {g : Byte → Byte → Bool → ArithResult} {src : Src}
    (h : arithA op g src s = .next t) : Quiet s t := by
  cases hd : s.decimalMode <;> simp only [arithA, hd, if_true, if_false, Bool.false_eq_true] at h <;>
    injection h with h <;> subst h
  · exact quiet_of_same_mem rfl rfl rfl rfl rfl rfl (by simp [State.putArith]) rfl
  · exact quiet_of_same_mem rfl rfl rfl rfl rfl rfl (by simp [State.putDecimal]) rfl

theorem shiftByte_quiet {s t : State} {f : Byte → Bool → ShiftResult} {g : ShiftTarget}
    (h : shiftByte f g s = .next t) : Quiet s t := by
  cases g <;> injection h with h <;> subst h
  · exact quiet_of_same_mem rfl rfl rfl rfl rfl rfl (by simp) rfl
  · exact quiet_of_write rfl rfl rfl rfl rfl rfl (by simp) _ _ rfl

theorem branchIf_quiet {s t : State} {c : Bool} {rel : Byte}
    (h : branchIf c rel s = .next t) : Quiet s t := by
  cases c <;> injection h with h <;> subst h <;> exact quiet_of_same_mem rfl rfl rfl rfl rfl rfl rfl rfl

theorem push_quiet (s : State) (v : Byte) : Quiet s (s.push v) :=
  quiet_of_write (by simp) (by simp) (by simp) (by simp) (by simp) (by simp) (by simp) _ _ (push_mem s v)

theorem popState_quiet (s : State) : Quiet s s.popState :=
  quiet_of_same_mem (by simp) (by simp) (by simp) (by simp) (by simp) (by simp) (by simp) (by simp)

theorem Quiet.trans {s t u : State} (h : Quiet s t) (k : Quiet t u) : Quiet s u :=
  ⟨⟨k.1.run.trans h.1.run, k.1.fault.trans h.1.fault, k.1.hold.trans h.1.hold, k.1.ext.trans h.1.ext,
    k.1.draws.trans h.1.draws, k.1.reserved.trans h.1.reserved, fun hm => k.1.memory (h.1.memory hm)⟩, k.2.trans h.2⟩

theorem setPc_quiet (s : State) (v : Word) : Quiet s (s.setPc v) :=
  quiet_of_same_mem rfl rfl rfl rfl rfl rfl rfl rfl

theorem callSubroutine_quiet {w : Word} {s t : State} (h : callSubroutine w s = .next t) : Quiet s t := by
  injection h with h; subst h
  exact (((setPc_quiet s _).trans (push_quiet _ _)).trans (push_quiet _ _)).trans (setPc_quiet _ _)

theorem returnFromSubroutine_quiet {s t : State} (h : returnFromSubroutine s = .next t) : Quiet s t := by
  injection h with h; subst h
  exact ((popState_quiet s).trans (popState_quiet _)).trans (setPc_quiet _ _)

/-- An instruction other than BRK is quiet. -/
theorem exec_quiet {i : Instr} {s t : State} (hi : i ≠ .brk) (h : exec i s = .next t) : Quiet s t := by
  cases i
  case ldaImm | ldaZp | ldaZpx | ldaAbs | ldaAbsx | ldaAbsy | ldaIndx | ldaIndy =>
    simp only [exec, execLdaImm, execLdaZp, execLdaZpx, execLdaAbs, execLdaAbsx, execLdaAbsy, execLdaIndx,
      execLdaIndy] at h
    exact loadA_quiet h
  case ldxImm | ldxZp | ldxZpy | ldxAbs | ldxAbsy =>
    simp only [exec, execLdxImm, execLdxZp, execLdxZpy, execLdxAbs, execLdxAbsy] at h
    exact loadX_quiet h
  case ldyImm | ldyZp | ldyZpx | ldyAbs | ldyAbsx =>
    simp only [exec, execLdyImm, execLdyZp, execLdyZpx, execLdyAbs, execLdyAbsx] at h
    exact loadY_quiet h
  case staZp | staZpx | staAbs | staAbsx | staAbsy | staIndx | staIndy | stxZp | stxZpy | stxAbs | styZp |
      styZpx | styAbs =>
    simp only [exec, execStaZp, execStaZpx, execStaAbs, execStaAbsx, execStaAbsy, execStaIndx, execStaIndy,
      execStxZp, execStxZpy, execStxAbs, execStyZp, execStyZpx, execStyAbs] at h
    exact storeByte_quiet h
  case incZp | incZpx | incAbs | incAbsx | decZp | decZpx | decAbs | decAbsx =>
    simp only [exec, execIncZp, execIncZpx, execIncAbs, execIncAbsx, execDecZp, execDecZpx, execDecAbs,
      execDecAbsx] at h
    exact modifyByte_quiet h
  case andImm | andZp | andZpx | andAbs | andAbsx | andAbsy | andIndx | andIndy | oraImm | oraZp | oraZpx |
      oraAbs | oraAbsx | oraAbsy | oraIndx | oraIndy | eorImm | eorZp | eorZpx | eorAbs | eorAbsx | eorAbsy |
      eorIndx | eorIndy =>
    simp only [exec, execAndImm, execAndZp, execAndZpx, execAndAbs, execAndAbsx, execAndAbsy, execAndIndx,
      execAndIndy, execOraImm, execOraZp, execOraZpx, execOraAbs, execOraAbsx, execOraAbsy, execOraIndx,
      execOraIndy, execEorImm, execEorZp, execEorZpx, execEorAbs, execEorAbsx, execEorAbsy, execEorIndx,
      execEorIndy] at h
    exact logicA_quiet h
  case adcImm | adcZp | adcZpx | adcAbs | adcAbsx | adcAbsy | adcIndx | adcIndy | sbcImm | sbcZp | sbcZpx |
      sbcAbs | sbcAbsx | sbcAbsy | sbcIndx | sbcIndy =>
    simp only [exec, execAdcImm, execAdcZp, execAdcZpx, execAdcAbs, execAdcAbsx, execAdcAbsy, execAdcIndx,
      execAdcIndy, execSbcImm, execSbcZp, execSbcZpx, execSbcAbs, execSbcAbsx, execSbcAbsy, execSbcIndx,
      execSbcIndy] at h
    exact arithA_quiet h
  case bitZp | bitAbs =>
    simp only [exec, execBitZp, execBitAbs] at h
    exact bitTest_quiet h
  case aslAcc | aslZp | aslZpx | aslAbs | aslAbsx | lsrAcc | lsrZp | lsrZpx | lsrAbs | lsrAbsx | rolAcc | rolZp |
      rolZpx | rolAbs | rolAbsx | rorAcc | rorZp | rorZpx | rorAbs | rorAbsx =>
    simp only [exec, execAslAcc, execAslZp, execAslZpx, execAslAbs, execAslAbsx, execLsrAcc, execLsrZp,
      execLsrZpx, execLsrAbs, execLsrAbsx, execRolAcc, execRolZp, execRolZpx, execRolAbs, execRolAbsx,
      execRorAcc, execRorZp, execRorZpx, execRorAbs, execRorAbsx] at h
    exact shiftByte_quiet h
  case cmpImm | cmpZp | cmpZpx | cmpAbs | cmpAbsx | cmpAbsy | cmpIndx | cmpIndy | cpxImm | cpxZp | cpxAbs |
      cpyImm | cpyZp | cpyAbs =>
    simp only [exec, execCmpImm, execCmpZp, execCmpZpx, execCmpAbs, execCmpAbsx, execCmpAbsy, execCmpIndx,
      execCmpIndy, execCpxImm, execCpxZp, execCpxAbs, execCpyImm, execCpyZp, execCpyAbs] at h
    exact compareReg_quiet h
  case bcc | bcs | beq | bne | bmi | bpl | bvc | bvs =>
    simp only [exec, execBcc, execBcs, execBeq, execBne, execBmi, execBpl, execBvc, execBvs] at h
    exact branchIf_quiet h
  case jsr =>
    simp only [exec, execJsr] at h
    exact callSubroutine_quiet h
  case rts =>
    simp only [exec, execRts] at h
    exact returnFromSubroutine_quiet h
  case pha | php => injection h with h; subst h; exact push_quiet s _
  case pla =>
    injection h with h; subst h
    exact (popState_quiet s).trans (quiet_of_same_mem rfl rfl rfl rfl rfl rfl (by simp) rfl)
  case brk => exact absurd rfl hi
  all_goals
    injection h with h; subst h
    exact quiet_of_same_mem rfl rfl rfl rfl rfl rfl (by simp [State.clearCarry, State.setCarry, State.clearOverflow]) rfl

/-- What every instruction leaves, BRK too. -/
theorem exec_keepsEngine {i : Instr} {s t : State} (h : exec i s = .next t) : KeepsEngine s t := by
  by_cases hi : i = .brk
  · subst hi; injection h with h; subst h
    exact ⟨rfl, rfl, rfl, rfl, rfl, rfl, id⟩
  · exact (exec_quiet hi h).1

/-! ## Steps -/

/-- The bytes a step fetches, in one line (R50, R72). -/
theorem fetchBytes_eq (s : State) :
    s.fetchBytes = [s.read s.pc, s.read (s.pc + 1#16), s.read (s.pc + 1#16 + 1#16)] := rfl

/-- A step that goes on either took the UnknownOpcode fault, or ran an instruction to its end (R70, R211). -/
theorem engineStep_cases {r : Byte} {s t : State} (h : engineStep r s = .next t) :
    (lookupOpcode ((s.writeRandom r).read s.pc) = none ∧ (s.writeRandom r).read s.pc ∉ s.extTable ∧
      t = ((s.writeRandom r).consume 1#16).takeFault (.unknownOpcode s.pc ((s.writeRandom r).read s.pc))) ∨
    ∃ i rest u, decode (s.writeRandom r).fetchBytes = .ok (i, rest) ∧
      exec i ((s.writeRandom r).consume 1#16) = .next u ∧ t = u.haltCheck := by
  unfold engineStep State.runInstruction at h
  split at h
  next i rest hd =>
    refine .inr ⟨i, rest, ?_⟩
    cases he : exec i ((s.writeRandom r).consume 1#16) with
    | next u => exact ⟨u, hd, rfl, by simpa [State.popByte, he, finishStep] using h.symm⟩
    | fault f => simp [State.popByte, he, finishStep] at h
    | refused f => simp [State.popByte, he, finishStep] at h
  next e hd =>
    rw [fetchBytes_eq] at hd
    rcases decode_three ((s.writeRandom r).read (s.writeRandom r).pc) _ _ with ⟨i, rest, ho, -⟩ | ⟨-, hn⟩
    · rw [ho] at hd; cases hd
    · refine .inl ⟨hn, ?_⟩
      by_cases hx : (s.writeRandom r).read s.pc ∈ s.extTable
      · have : (s.writeRandom r).extTable.contains ((s.writeRandom r).read (s.writeRandom r).pc) = true := by simpa [State.writeRandom] using hx
        simp only [State.absentOpcode, State.popByte, this, if_true] at h
        cases h
      · have : (s.writeRandom r).extTable.contains ((s.writeRandom r).read (s.writeRandom r).pc) = false := by simpa [State.writeRandom] using hx
        simp only [State.absentOpcode, State.popByte, this, if_false, Bool.false_eq_true] at h
        injection h with h
        exact ⟨hx, h.symm⟩

end Sys2Proof.Machine
end

