-- ==== Sys2Proof/Laws/Command.lean ====
section
/-! SUPPORT. What a drawn step, the engine's move and a host move can answer, said once, so that a statement about runs
cites these and unfolds no move. -/

namespace Sys2Proof.Machine

/-- What a drawn step does to the engine's part of the state: one byte is drawn, the halt condition has discharged any
request, RUN is Stopped or as before, and FAULT is as before or RUN is Stopped. -/
structure Drawn (s t : State) : Prop where
  hold : t.hold = s.hold
  ext : t.extTable = s.extTable
  draws : t.draws = s.draws + 1
  reserved : t.p &&& reservedMask = s.p &&& reservedMask
  memory : s.mem.wf → t.mem.wf
  noRequest : t.stopRequested = false
  run : t.run = .stopped ∨ t.run = s.run ∧ t.pc ≠ 0x0000#16
  fault : t.faultLatch = s.faultLatch ∨ t.run = .stopped

theorem drawnStep_next {s t : State} (h : drawnStep s = .next t) : Drawn s t := by
  have hw : s.mem.wf → ((s.setDraws (s.draws + 1)).writeRandom (Config.rnd s.draws)).mem.wf :=
    fun hm => Memory.write_wf hm _ _
  rcases engineStep_cases h with ⟨-, -, rfl⟩ | ⟨i, rest, u, -, he, rfl⟩
  · exact ⟨rfl, rfl, rfl, rfl, hw, rfl, .inl rfl, .inr rfl⟩
  · have k := exec_keepsEngine he
    refine ⟨by simp [k.hold, State.writeRandom], by simp [k.ext, State.writeRandom],
      by simp [k.draws, State.writeRandom], by simp [k.reserved, State.writeRandom],
      by simpa using fun hm => k.memory (hw hm), by simp, ?_, .inl (by simp [k.fault, State.writeRandom])⟩
    rcases haltCheck_cases u with ⟨e, -⟩ | ⟨e, hz, -⟩
    · exact .inl (by rw [e]; rfl)
    · exact .inr ⟨by rw [e, k.run]; rfl, by rwa [e]⟩

/-- The engine's move that answers a state: a step of an enabled engine, or nothing (R101). -/
theorem step_cases {s t : State} (h : step s = .next t) :
    s.faultLatch = none ∧ (s.run = .running ∧ s.hold = .free ∧ drawnStep s = .next t ∨
      ¬(s.run = .running ∧ s.hold = .free) ∧ t = s) := by
  unfold step pacedStep at h
  cases hf : s.faultLatch with
  | some f => simp [hf] at h
  | none =>
    cases hr : s.run <;> cases hh : s.hold <;> simp only [hf, hr, hh] at h
    case running.free => exact ⟨rfl, .inl ⟨rfl, rfl, h⟩⟩
    all_goals
      injection h with h
      exact ⟨rfl, .inr ⟨by simp, h.symm⟩⟩

theorem ofResult_next {r : Result} {t : State} {reply : Reply} (h : MoveResult.ofResult r = .next (t, reply)) :
    r = .next t ∧ reply = .done := by
  cases r <;> simp_all [MoveResult.ofResult]

/-- Every host move that answers a state, with its condition and what it writes (R230); the last case is a move that only
answers: IRQ, a read, a flags query, or a write out of range. -/
theorem hostMove_cases {m : HostMove} {s t : State} {reply : Reply} (h : hostMove m s = .next (t, reply)) :
    (m = .reset ∧ s.run = .stopped ∧ t = s.performReset) ∨
    (m = .start ∧ s.faultLatch = none ∧ t = s.setRun .running) ∨
    (m = .stop ∧ t = s.stopEngine) ∨
    (m = .stopInFlight ∧ s.stepEnabled = true ∧ drawnStep s.requestStop = .next t) ∨
    (m = .step ∧ s.faultLatch = none ∧ s.hold = .free ∧ drawnStep s = .next t) ∨
    (m = .obsBegin ∧ s.hold = .free ∧ t = s.setHold .held) ∨
    (m = .obsEnd ∧ s.hold = .held ∧ t = s.setHold .free) ∨
    (∃ addr value w, m = .set addr value ∧ s.idle = true ∧ hostAddr addr = some w ∧
      t = s.write w (BitVec.ofInt 8 value)) ∨
    (∃ op, m = .bind op ∧ s.draws = 0 ∧ lookupOpcode op = none ∧
      t = s.setExtTable (op :: s.extTable.filter (fun b => b ≠ op))) ∨
    t = s := by
  cases m
  case reset => cases hr : s.run <;> simp_all [hostMove, moveReset]
  case start => cases hf : s.faultLatch <;> simp_all [hostMove, moveStart]
  case stop => simp_all [hostMove, moveStop]
  case stopInFlight =>
    cases he : s.stepEnabled <;> simp only [hostMove, moveStopInFlight, he, if_true, if_false, Bool.false_eq_true] at h
    · cases h
    · simp [(ofResult_next h).1]
  case step =>
    cases hf : s.faultLatch <;> cases hh : s.hold <;> simp [hostMove, moveStep, hf, hh] at h
    simp [(ofResult_next h).1]
  case obsBegin => cases hh : s.hold <;> simp_all [hostMove, moveObsBegin]
  case obsEnd => cases hh : s.hold <;> simp_all [hostMove, moveObsEnd]
  case irq => simp_all [hostMove, moveIrq]
  case get addr =>
    cases hi : s.idle <;> cases ha : hostAddr addr <;> simp_all [hostMove, moveGet]
  case set addr value =>
    cases hi : s.idle <;> cases ha : hostAddr addr <;> simp_all [hostMove, moveSet]
  case flags => cases hi : s.idle <;> simp_all [hostMove, moveFlags]
  case bind op =>
    by_cases hd : s.draws = 0 <;> cases hl : lookupOpcode op <;> simp_all [hostMove, moveBind]

/-- What an event that answers a state did: the engine's move, or a host move (R223). -/
theorem after_cases {s t : State} {e : Event} (h : s.after e = .next t) :
    e = .engine ∧ step s = .next t ∨ ∃ m reply, e = .host m ∧ hostMove m s = .next (t, reply) := by
  cases e with
  | engine => exact .inl ⟨rfl, h⟩
  | host m =>
    simp only [State.after] at h
    cases hm : hostMove m s with
    | next x =>
      rw [hm] at h
      injection h with h
      exact .inr ⟨m, x.2, rfl, h ▸ hm⟩
    | fault _ => rw [hm] at h; cases h
    | refused _ => rw [hm] at h; cases h

end Sys2Proof.Machine
end

