-- ==== Sys2Proof/Laws/PerInstr.lean ====
section
/-! SUPPORT. Laws stated for every instruction, one lemma per constructor. Family `EncodeWellFormed`: the encoder writes
exactly one well-formed instruction, as the columns of R54 and the lengths of R52 say. -/

namespace Sys2Proof.Laws.EncodeWellFormed

/-- The bytes the encoder writes are one instruction of the table, of its format's length. -/
def Statement (i : Instr) : Prop := wellFormed (encode i) = true

theorem ldaImm (imm : Byte) : Statement (.ldaImm imm) := rfl
theorem ldaZp (zp : Byte) : Statement (.ldaZp zp) := rfl
theorem ldaZpx (zp : Byte) : Statement (.ldaZpx zp) := rfl
theorem ldaAbs (addr : Word) : Statement (.ldaAbs addr) := rfl
theorem ldaAbsx (addr : Word) : Statement (.ldaAbsx addr) := rfl
theorem ldaAbsy (addr : Word) : Statement (.ldaAbsy addr) := rfl
theorem ldaIndx (zp : Byte) : Statement (.ldaIndx zp) := rfl
theorem ldaIndy (zp : Byte) : Statement (.ldaIndy zp) := rfl
theorem ldxImm (imm : Byte) : Statement (.ldxImm imm) := rfl
theorem ldxZp (zp : Byte) : Statement (.ldxZp zp) := rfl
theorem ldxZpy (zp : Byte) : Statement (.ldxZpy zp) := rfl
theorem ldxAbs (addr : Word) : Statement (.ldxAbs addr) := rfl
theorem ldxAbsy (addr : Word) : Statement (.ldxAbsy addr) := rfl
theorem ldyImm (imm : Byte) : Statement (.ldyImm imm) := rfl
theorem ldyZp (zp : Byte) : Statement (.ldyZp zp) := rfl
theorem ldyZpx (zp : Byte) : Statement (.ldyZpx zp) := rfl
theorem ldyAbs (addr : Word) : Statement (.ldyAbs addr) := rfl
theorem ldyAbsx (addr : Word) : Statement (.ldyAbsx addr) := rfl
theorem staZp (zp : Byte) : Statement (.staZp zp) := rfl
theorem staZpx (zp : Byte) : Statement (.staZpx zp) := rfl
theorem staAbs (addr : Word) : Statement (.staAbs addr) := rfl
theorem staAbsx (addr : Word) : Statement (.staAbsx addr) := rfl
theorem staAbsy (addr : Word) : Statement (.staAbsy addr) := rfl
theorem staIndx (zp : Byte) : Statement (.staIndx zp) := rfl
theorem staIndy (zp : Byte) : Statement (.staIndy zp) := rfl
theorem stxZp (zp : Byte) : Statement (.stxZp zp) := rfl
theorem stxZpy (zp : Byte) : Statement (.stxZpy zp) := rfl
theorem stxAbs (addr : Word) : Statement (.stxAbs addr) := rfl
theorem styZp (zp : Byte) : Statement (.styZp zp) := rfl
theorem styZpx (zp : Byte) : Statement (.styZpx zp) := rfl
theorem styAbs (addr : Word) : Statement (.styAbs addr) := rfl
theorem tax : Statement .tax := rfl
theorem tay : Statement .tay := rfl
theorem txa : Statement .txa := rfl
theorem tya : Statement .tya := rfl
theorem tsx : Statement .tsx := rfl
theorem txs : Statement .txs := rfl
theorem incZp (zp : Byte) : Statement (.incZp zp) := rfl
theorem incZpx (zp : Byte) : Statement (.incZpx zp) := rfl
theorem incAbs (addr : Word) : Statement (.incAbs addr) := rfl
theorem incAbsx (addr : Word) : Statement (.incAbsx addr) := rfl
theorem decZp (zp : Byte) : Statement (.decZp zp) := rfl
theorem decZpx (zp : Byte) : Statement (.decZpx zp) := rfl
theorem decAbs (addr : Word) : Statement (.decAbs addr) := rfl
theorem decAbsx (addr : Word) : Statement (.decAbsx addr) := rfl
theorem inx : Statement .inx := rfl
theorem iny : Statement .iny := rfl
theorem dex : Statement .dex := rfl
theorem dey : Statement .dey := rfl
theorem andImm (imm : Byte) : Statement (.andImm imm) := rfl
theorem andZp (zp : Byte) : Statement (.andZp zp) := rfl
theorem andZpx (zp : Byte) : Statement (.andZpx zp) := rfl
theorem andAbs (addr : Word) : Statement (.andAbs addr) := rfl
theorem andAbsx (addr : Word) : Statement (.andAbsx addr) := rfl
theorem andAbsy (addr : Word) : Statement (.andAbsy addr) := rfl
theorem andIndx (zp : Byte) : Statement (.andIndx zp) := rfl
theorem andIndy (zp : Byte) : Statement (.andIndy zp) := rfl
theorem oraImm (imm : Byte) : Statement (.oraImm imm) := rfl
theorem oraZp (zp : Byte) : Statement (.oraZp zp) := rfl
theorem oraZpx (zp : Byte) : Statement (.oraZpx zp) := rfl
theorem oraAbs (addr : Word) : Statement (.oraAbs addr) := rfl
theorem oraAbsx (addr : Word) : Statement (.oraAbsx addr) := rfl
theorem oraAbsy (addr : Word) : Statement (.oraAbsy addr) := rfl
theorem oraIndx (zp : Byte) : Statement (.oraIndx zp) := rfl
theorem oraIndy (zp : Byte) : Statement (.oraIndy zp) := rfl
theorem eorImm (imm : Byte) : Statement (.eorImm imm) := rfl
theorem eorZp (zp : Byte) : Statement (.eorZp zp) := rfl
theorem eorZpx (zp : Byte) : Statement (.eorZpx zp) := rfl
theorem eorAbs (addr : Word) : Statement (.eorAbs addr) := rfl
theorem eorAbsx (addr : Word) : Statement (.eorAbsx addr) := rfl
theorem eorAbsy (addr : Word) : Statement (.eorAbsy addr) := rfl
theorem eorIndx (zp : Byte) : Statement (.eorIndx zp) := rfl
theorem eorIndy (zp : Byte) : Statement (.eorIndy zp) := rfl
theorem adcImm (imm : Byte) : Statement (.adcImm imm) := rfl
theorem adcZp (zp : Byte) : Statement (.adcZp zp) := rfl
theorem adcZpx (zp : Byte) : Statement (.adcZpx zp) := rfl
theorem adcAbs (addr : Word) : Statement (.adcAbs addr) := rfl
theorem adcAbsx (addr : Word) : Statement (.adcAbsx addr) := rfl
theorem adcAbsy (addr : Word) : Statement (.adcAbsy addr) := rfl
theorem adcIndx (zp : Byte) : Statement (.adcIndx zp) := rfl
theorem adcIndy (zp : Byte) : Statement (.adcIndy zp) := rfl
theorem sbcImm (imm : Byte) : Statement (.sbcImm imm) := rfl
theorem sbcZp (zp : Byte) : Statement (.sbcZp zp) := rfl
theorem sbcZpx (zp : Byte) : Statement (.sbcZpx zp) := rfl
theorem sbcAbs (addr : Word) : Statement (.sbcAbs addr) := rfl
theorem sbcAbsx (addr : Word) : Statement (.sbcAbsx addr) := rfl
theorem sbcAbsy (addr : Word) : Statement (.sbcAbsy addr) := rfl
theorem sbcIndx (zp : Byte) : Statement (.sbcIndx zp) := rfl
theorem sbcIndy (zp : Byte) : Statement (.sbcIndy zp) := rfl
theorem bitZp (zp : Byte) : Statement (.bitZp zp) := rfl
theorem bitAbs (addr : Word) : Statement (.bitAbs addr) := rfl
theorem aslAcc : Statement .aslAcc := rfl
theorem aslZp (zp : Byte) : Statement (.aslZp zp) := rfl
theorem aslZpx (zp : Byte) : Statement (.aslZpx zp) := rfl
theorem aslAbs (addr : Word) : Statement (.aslAbs addr) := rfl
theorem aslAbsx (addr : Word) : Statement (.aslAbsx addr) := rfl
theorem lsrAcc : Statement .lsrAcc := rfl
theorem lsrZp (zp : Byte) : Statement (.lsrZp zp) := rfl
theorem lsrZpx (zp : Byte) : Statement (.lsrZpx zp) := rfl
theorem lsrAbs (addr : Word) : Statement (.lsrAbs addr) := rfl
theorem lsrAbsx (addr : Word) : Statement (.lsrAbsx addr) := rfl
theorem rolAcc : Statement .rolAcc := rfl
theorem rolZp (zp : Byte) : Statement (.rolZp zp) := rfl
theorem rolZpx (zp : Byte) : Statement (.rolZpx zp) := rfl
theorem rolAbs (addr : Word) : Statement (.rolAbs addr) := rfl
theorem rolAbsx (addr : Word) : Statement (.rolAbsx addr) := rfl
theorem rorAcc : Statement .rorAcc := rfl
theorem rorZp (zp : Byte) : Statement (.rorZp zp) := rfl
theorem rorZpx (zp : Byte) : Statement (.rorZpx zp) := rfl
theorem rorAbs (addr : Word) : Statement (.rorAbs addr) := rfl
theorem rorAbsx (addr : Word) : Statement (.rorAbsx addr) := rfl
theorem cmpImm (imm : Byte) : Statement (.cmpImm imm) := rfl
theorem cmpZp (zp : Byte) : Statement (.cmpZp zp) := rfl
theorem cmpZpx (zp : Byte) : Statement (.cmpZpx zp) := rfl
theorem cmpAbs (addr : Word) : Statement (.cmpAbs addr) := rfl
theorem cmpAbsx (addr : Word) : Statement (.cmpAbsx addr) := rfl
theorem cmpAbsy (addr : Word) : Statement (.cmpAbsy addr) := rfl
theorem cmpIndx (zp : Byte) : Statement (.cmpIndx zp) := rfl
theorem cmpIndy (zp : Byte) : Statement (.cmpIndy zp) := rfl
theorem cpxImm (imm : Byte) : Statement (.cpxImm imm) := rfl
theorem cpxZp (zp : Byte) : Statement (.cpxZp zp) := rfl
theorem cpxAbs (addr : Word) : Statement (.cpxAbs addr) := rfl
theorem cpyImm (imm : Byte) : Statement (.cpyImm imm) := rfl
theorem cpyZp (zp : Byte) : Statement (.cpyZp zp) := rfl
theorem cpyAbs (addr : Word) : Statement (.cpyAbs addr) := rfl
theorem jmpAbs (addr : Word) : Statement (.jmpAbs addr) := rfl
theorem jmpInd (ptr : Word) : Statement (.jmpInd ptr) := rfl
theorem jsr (addr : Word) : Statement (.jsr addr) := rfl
theorem rts : Statement .rts := rfl
theorem bcc (rel : Byte) : Statement (.bcc rel) := rfl
theorem bcs (rel : Byte) : Statement (.bcs rel) := rfl
theorem beq (rel : Byte) : Statement (.beq rel) := rfl
theorem bne (rel : Byte) : Statement (.bne rel) := rfl
theorem bmi (rel : Byte) : Statement (.bmi rel) := rfl
theorem bpl (rel : Byte) : Statement (.bpl rel) := rfl
theorem bvc (rel : Byte) : Statement (.bvc rel) := rfl
theorem bvs (rel : Byte) : Statement (.bvs rel) := rfl
theorem pha : Statement .pha := rfl
theorem pla : Statement .pla := rfl
theorem php : Statement .php := rfl
theorem clc : Statement .clc := rfl
theorem sec : Statement .sec := rfl
theorem clv : Statement .clv := rfl
theorem cld : Statement .cld := rfl
theorem sed : Statement .sed := rfl
theorem nop : Statement .nop := rfl
theorem brk : Statement .brk := rfl

end Sys2Proof.Laws.EncodeWellFormed
end

