-- ==== Sys2Proof/Tests/Slice0.lean ====
section
/-! SUPPORT. The model's own tests: what WellFormed refuses, words written out from the encoding table, single steps of
the spec's vectors (spec/95_test_vectors.md; a name gives the vector), and a witness for the hypotheses of each
statement. -/

namespace Sys2Proof.Tests

open Sys2Proof.Machine

/-! ## WellFormed: one ill-formed sequence for each check -/

theorem test_illFormed_noOpcode : illFormed [] = some .noOpcode := by decide
theorem test_illFormed_absentOpcode : illFormed [0x02#8] = some (.absentOpcode 0x02#8) := by decide
theorem test_illFormed_tooShort : illFormed [0xA9#8] = some (.wrongLength 0xA9#8 2 1) := by decide
theorem test_illFormed_tooLong : illFormed [0xAA#8, 0x00#8] = some (.wrongLength 0xAA#8 1 2) := by decide
theorem test_wellFormed_refuses : wellFormed [0x4C#8, 0x00#8] = false ∧ wellFormed [0x4C#8, 0x00#8, 0x06#8] = true := by
  decide

/-! ## Decoding: a word of every row, its opcode byte in bits as spec/30_encoding.md and the table's `encoding` give it,
an 8-bit operand 0x81, a 16-bit operand 0x1234 low byte first (R53) -/

/-- Whether bytes decode to exactly one instruction. -/
def decodesTo (word : List Byte × Instr) : Bool :=
  match decode word.1 with
  | .ok (i, []) => i = word.2
  | _ => false

def allDecode (words : List (List Byte × Instr)) : Bool := words.all decodesTo

theorem test_decode_LoadStore :
    (allDecode [([0b10101001#8, 0x81#8], .ldaImm 0x81), ([0b10100101#8, 0x81#8], .ldaZp 0x81),
     ([0b10110101#8, 0x81#8], .ldaZpx 0x81), ([0b10101101#8, 0x34#8, 0x12#8], .ldaAbs 0x1234),
     ([0b10111101#8, 0x34#8, 0x12#8], .ldaAbsx 0x1234), ([0b10111001#8, 0x34#8, 0x12#8], .ldaAbsy 0x1234),
     ([0b10100001#8, 0x81#8], .ldaIndx 0x81), ([0b10110001#8, 0x81#8], .ldaIndy 0x81)] &&
    allDecode [([0b10100010#8, 0x81#8], .ldxImm 0x81), ([0b10100110#8, 0x81#8], .ldxZp 0x81),
     ([0b10110110#8, 0x81#8], .ldxZpy 0x81), ([0b10101110#8, 0x34#8, 0x12#8], .ldxAbs 0x1234),
     ([0b10111110#8, 0x34#8, 0x12#8], .ldxAbsy 0x1234), ([0b10100000#8, 0x81#8], .ldyImm 0x81),
     ([0b10100100#8, 0x81#8], .ldyZp 0x81), ([0b10110100#8, 0x81#8], .ldyZpx 0x81)] &&
    allDecode [([0b10101100#8, 0x34#8, 0x12#8], .ldyAbs 0x1234), ([0b10111100#8, 0x34#8, 0x12#8], .ldyAbsx 0x1234),
     ([0b10000101#8, 0x81#8], .staZp 0x81), ([0b10010101#8, 0x81#8], .staZpx 0x81),
     ([0b10001101#8, 0x34#8, 0x12#8], .staAbs 0x1234), ([0b10011101#8, 0x34#8, 0x12#8], .staAbsx 0x1234),
     ([0b10011001#8, 0x34#8, 0x12#8], .staAbsy 0x1234), ([0b10000001#8, 0x81#8], .staIndx 0x81)] &&
    allDecode [([0b10010001#8, 0x81#8], .staIndy 0x81), ([0b10000110#8, 0x81#8], .stxZp 0x81),
     ([0b10010110#8, 0x81#8], .stxZpy 0x81), ([0b10001110#8, 0x34#8, 0x12#8], .stxAbs 0x1234),
     ([0b10000100#8, 0x81#8], .styZp 0x81), ([0b10010100#8, 0x81#8], .styZpx 0x81),
     ([0b10001100#8, 0x34#8, 0x12#8], .styAbs 0x1234), ([0b10101010#8], .tax)] &&
    allDecode [([0b10101000#8], .tay), ([0b10001010#8], .txa), ([0b10011000#8], .tya), ([0b10111010#8], .tsx),
     ([0b10011010#8], .txs)]) = true := by
  decide

theorem test_decode_IncDec :
    (allDecode [([0b11100110#8, 0x81#8], .incZp 0x81), ([0b11110110#8, 0x81#8], .incZpx 0x81),
     ([0b11101110#8, 0x34#8, 0x12#8], .incAbs 0x1234), ([0b11111110#8, 0x34#8, 0x12#8], .incAbsx 0x1234),
     ([0b11000110#8, 0x81#8], .decZp 0x81), ([0b11010110#8, 0x81#8], .decZpx 0x81),
     ([0b11001110#8, 0x34#8, 0x12#8], .decAbs 0x1234), ([0b11011110#8, 0x34#8, 0x12#8], .decAbsx 0x1234)] &&
    allDecode [([0b11101000#8], .inx), ([0b11001000#8], .iny), ([0b11001010#8], .dex), ([0b10001000#8], .dey)]) = true := by
  decide

theorem test_decode_LogicArith :
    (allDecode [([0b00101001#8, 0x81#8], .andImm 0x81), ([0b00100101#8, 0x81#8], .andZp 0x81),
     ([0b00110101#8, 0x81#8], .andZpx 0x81), ([0b00101101#8, 0x34#8, 0x12#8], .andAbs 0x1234),
     ([0b00111101#8, 0x34#8, 0x12#8], .andAbsx 0x1234), ([0b00111001#8, 0x34#8, 0x12#8], .andAbsy 0x1234),
     ([0b00100001#8, 0x81#8], .andIndx 0x81), ([0b00110001#8, 0x81#8], .andIndy 0x81)] &&
    allDecode [([0b00001001#8, 0x81#8], .oraImm 0x81), ([0b00000101#8, 0x81#8], .oraZp 0x81),
     ([0b00010101#8, 0x81#8], .oraZpx 0x81), ([0b00001101#8, 0x34#8, 0x12#8], .oraAbs 0x1234),
     ([0b00011101#8, 0x34#8, 0x12#8], .oraAbsx 0x1234), ([0b00011001#8, 0x34#8, 0x12#8], .oraAbsy 0x1234),
     ([0b00000001#8, 0x81#8], .oraIndx 0x81), ([0b00010001#8, 0x81#8], .oraIndy 0x81)] &&
    allDecode [([0b01001001#8, 0x81#8], .eorImm 0x81), ([0b01000101#8, 0x81#8], .eorZp 0x81),
     ([0b01010101#8, 0x81#8], .eorZpx 0x81), ([0b01001101#8, 0x34#8, 0x12#8], .eorAbs 0x1234),
     ([0b01011101#8, 0x34#8, 0x12#8], .eorAbsx 0x1234), ([0b01011001#8, 0x34#8, 0x12#8], .eorAbsy 0x1234),
     ([0b01000001#8, 0x81#8], .eorIndx 0x81), ([0b01010001#8, 0x81#8], .eorIndy 0x81)] &&
    allDecode [([0b01101001#8, 0x81#8], .adcImm 0x81), ([0b01100101#8, 0x81#8], .adcZp 0x81),
     ([0b01110101#8, 0x81#8], .adcZpx 0x81), ([0b01101101#8, 0x34#8, 0x12#8], .adcAbs 0x1234),
     ([0b01111101#8, 0x34#8, 0x12#8], .adcAbsx 0x1234), ([0b01111001#8, 0x34#8, 0x12#8], .adcAbsy 0x1234),
     ([0b01100001#8, 0x81#8], .adcIndx 0x81), ([0b01110001#8, 0x81#8], .adcIndy 0x81)] &&
    allDecode [([0b11101001#8, 0x81#8], .sbcImm 0x81), ([0b11100101#8, 0x81#8], .sbcZp 0x81),
     ([0b11110101#8, 0x81#8], .sbcZpx 0x81), ([0b11101101#8, 0x34#8, 0x12#8], .sbcAbs 0x1234),
     ([0b11111101#8, 0x34#8, 0x12#8], .sbcAbsx 0x1234), ([0b11111001#8, 0x34#8, 0x12#8], .sbcAbsy 0x1234),
     ([0b11100001#8, 0x81#8], .sbcIndx 0x81), ([0b11110001#8, 0x81#8], .sbcIndy 0x81)] &&
    allDecode [([0b00100100#8, 0x81#8], .bitZp 0x81), ([0b00101100#8, 0x34#8, 0x12#8], .bitAbs 0x1234)]) = true := by
  decide

theorem test_decode_Shift :
    (allDecode [([0b00001010#8], .aslAcc), ([0b00000110#8, 0x81#8], .aslZp 0x81), ([0b00010110#8, 0x81#8], .aslZpx 0x81),
     ([0b00001110#8, 0x34#8, 0x12#8], .aslAbs 0x1234), ([0b00011110#8, 0x34#8, 0x12#8], .aslAbsx 0x1234),
     ([0b01001010#8], .lsrAcc), ([0b01000110#8, 0x81#8], .lsrZp 0x81), ([0b01010110#8, 0x81#8], .lsrZpx 0x81)] &&
    allDecode [([0b01001110#8, 0x34#8, 0x12#8], .lsrAbs 0x1234), ([0b01011110#8, 0x34#8, 0x12#8], .lsrAbsx 0x1234),
     ([0b00101010#8], .rolAcc), ([0b00100110#8, 0x81#8], .rolZp 0x81), ([0b00110110#8, 0x81#8], .rolZpx 0x81),
     ([0b00101110#8, 0x34#8, 0x12#8], .rolAbs 0x1234), ([0b00111110#8, 0x34#8, 0x12#8], .rolAbsx 0x1234),
     ([0b01101010#8], .rorAcc)] &&
    allDecode [([0b01100110#8, 0x81#8], .rorZp 0x81), ([0b01110110#8, 0x81#8], .rorZpx 0x81),
     ([0b01101110#8, 0x34#8, 0x12#8], .rorAbs 0x1234), ([0b01111110#8, 0x34#8, 0x12#8], .rorAbsx 0x1234)]) = true := by
  decide

theorem test_decode_Compare :
    (allDecode [([0b11001001#8, 0x81#8], .cmpImm 0x81), ([0b11000101#8, 0x81#8], .cmpZp 0x81),
     ([0b11010101#8, 0x81#8], .cmpZpx 0x81), ([0b11001101#8, 0x34#8, 0x12#8], .cmpAbs 0x1234),
     ([0b11011101#8, 0x34#8, 0x12#8], .cmpAbsx 0x1234), ([0b11011001#8, 0x34#8, 0x12#8], .cmpAbsy 0x1234),
     ([0b11000001#8, 0x81#8], .cmpIndx 0x81), ([0b11010001#8, 0x81#8], .cmpIndy 0x81)] &&
    allDecode [([0b11100000#8, 0x81#8], .cpxImm 0x81), ([0b11100100#8, 0x81#8], .cpxZp 0x81),
     ([0b11101100#8, 0x34#8, 0x12#8], .cpxAbs 0x1234), ([0b11000000#8, 0x81#8], .cpyImm 0x81),
     ([0b11000100#8, 0x81#8], .cpyZp 0x81), ([0b11001100#8, 0x34#8, 0x12#8], .cpyAbs 0x1234)]) = true := by
  decide

theorem test_decode_Control :
    (allDecode [([0b01001100#8, 0x34#8, 0x12#8], .jmpAbs 0x1234), ([0b01101100#8, 0x34#8, 0x12#8], .jmpInd 0x1234),
     ([0b00100000#8, 0x34#8, 0x12#8], .jsr 0x1234), ([0b01100000#8], .rts), ([0b10010000#8, 0x81#8], .bcc 0x81),
     ([0b10110000#8, 0x81#8], .bcs 0x81), ([0b11110000#8, 0x81#8], .beq 0x81), ([0b11010000#8, 0x81#8], .bne 0x81)] &&
    allDecode [([0b00110000#8, 0x81#8], .bmi 0x81), ([0b00010000#8, 0x81#8], .bpl 0x81), ([0b01010000#8, 0x81#8], .bvc 0x81),
     ([0b01110000#8, 0x81#8], .bvs 0x81)]) = true := by
  decide

theorem test_decode_StackFlag :
    (allDecode [([0b01001000#8], .pha), ([0b01101000#8], .pla), ([0b00001000#8], .php), ([0b00011000#8], .clc),
     ([0b00111000#8], .sec), ([0b10111000#8], .clv), ([0b11011000#8], .cld), ([0b11111000#8], .sed)] &&
    allDecode [([0b11101010#8], .nop), ([0b00000000#8], .brk)]) = true := by
  decide

/-- The two bytes of an undocumented opcode are refused by name (R55). -/
theorem test_decode_unknown : decode [0x80#8, 0x00#8] = .error (.unknownOpcode 0x80#8) := rfl
theorem test_decode_truncated : decode [0x4C#8, 0x34#8] = .error (.truncated 0x4C#8) := rfl
theorem test_decode_empty : decode [] = .error .empty := rfl
theorem test_decodeTableWord : decodeTableWord 24 0x12344C = some (.jmpAbs 0x1234) := rfl
/-- The table gives a row fewer bits than the instruction may have: the rest is zero. -/
theorem test_decodeTableWord_opcodeOnly : decodeTableWord 8 0xA9 = some (.ldaImm 0x00) := rfl
theorem test_decodeTableWord_unknown : decodeTableWord 8 0x02 = none := rfl

/-! ## Single steps -/

/-- A state for a test: registers, P, PC, the engine Running, and bytes placed in an otherwise reset memory. -/
def start (a x y sp p : Byte) (pc : Word) (cells : List (Word × Byte)) : State :=
  let s := ((((((State.reset.setRun .running).setA a).setX x).setY y).setSp sp).setP p).setPc pc
  cells.foldl (fun t c => t.write c.1 c.2) s

/-- Whether a step answers a next state with these registers, P, PC, RUN, StackWrap count and cells. -/
def gives (r : Result) (a x y sp p : Byte) (pc : Word) (run : RunState) (wraps : Nat) (cells : List (Word × Byte)) : Bool :=
  match r with
  | .next t =>
    t.a = a && t.x = x && t.y = y && t.sp = sp && t.p = p && t.pc = pc && t.run = run && t.stackWraps = wraps &&
      cells.all fun c => t.read c.1 = c.2
  | _ => false

/-- Whether a step answers a next state of which a check holds. -/
def leaves (r : Result) (check : State → Bool) : Bool :=
  match r with
  | .next t => check t
  | _ => false

theorem test_V41_1 : gives (engineStep 0x00#8 (start 0x55#8 0x00#8 0x00#8 0xFF#8 0x30#8 0x0600#16 [(0x0600#16, 0xA9#8), (0x0601#16, 0x00#8)]))
    0x00#8 0x00#8 0x00#8 0xFF#8 0x32#8 0x0602#16 .running 0 [] = true := by decide
theorem test_V41_4 : gives (engineStep 0x00#8 (start 0x00#8 0x02#8 0x00#8 0xFF#8 0x30#8 0x0600#16 [(0x0600#16, 0xB5#8), (0x0601#16, 0xFF#8), (0x0001#16, 0x42#8), (0x0101#16, 0x99#8)]))
    0x42#8 0x02#8 0x00#8 0xFF#8 0x30#8 0x0602#16 .running 0 [] = true := by decide
theorem test_V41_8 : gives (engineStep 0x00#8 (start 0x00#8 0x0F#8 0x00#8 0xFF#8 0x30#8 0x0600#16 [(0x0600#16, 0xA1#8), (0x0601#16, 0xF0#8), (0x0000#16, 0x03#8), (0x00FF#16, 0x00#8), (0x0100#16, 0x77#8), (0x0300#16, 0x5A#8)]))
    0x5A#8 0x0F#8 0x00#8 0xFF#8 0x30#8 0x0602#16 .running 0 [] = true := by decide
theorem test_V41_9 : gives (engineStep 0x00#8 (start 0x00#8 0x00#8 0x10#8 0xFF#8 0x30#8 0x0600#16 [(0x0600#16, 0xB1#8), (0x0601#16, 0xFF#8), (0x0000#16, 0x02#8), (0x00FF#16, 0xF8#8), (0x0308#16, 0xA5#8)]))
    0xA5#8 0x00#8 0x10#8 0xFF#8 0xB0#8 0x0602#16 .running 0 [] = true := by decide
theorem test_V41_11 : gives (engineStep 0xAB#8 (start 0x00#8 0x00#8 0x00#8 0xFF#8 0x30#8 0x0600#16 [(0x0600#16, 0xA5#8), (0x0601#16, 0xFE#8), (0x00FE#16, 0x11#8)]))
    0xAB#8 0x00#8 0x00#8 0xFF#8 0xB0#8 0x0602#16 .running 0 [(0x00FE#16, 0xAB#8)] = true := by decide
theorem test_V41_12 : gives (engineStep 0x00#8 (start 0x00#8 0x00#8 0xF5#8 0xFF#8 0x30#8 0x0600#16 [(0x0600#16, 0xB6#8), (0x0601#16, 0x10#8), (0x0005#16, 0x80#8)]))
    0x00#8 0x80#8 0xF5#8 0xFF#8 0xB0#8 0x0602#16 .running 0 [] = true := by decide
theorem test_V41_14 : gives (engineStep 0x00#8 (start 0x00#8 0x01#8 0x00#8 0xFF#8 0x30#8 0x0600#16 [(0x0600#16, 0xB4#8), (0x0601#16, 0x10#8), (0x0011#16, 0x01#8)]))
    0x00#8 0x01#8 0x01#8 0xFF#8 0x30#8 0x0602#16 .running 0 [] = true := by decide
theorem test_V41_16 : gives (engineStep 0x00#8 (start 0x5A#8 0x00#8 0x00#8 0xFF#8 0xF1#8 0x0600#16 [(0x0600#16, 0x85#8), (0x0601#16, 0x10#8), (0x0010#16, 0xFF#8)]))
    0x5A#8 0x00#8 0x00#8 0xFF#8 0xF1#8 0x0602#16 .running 0 [(0x0010#16, 0x5A#8)] = true := by decide
theorem test_V41_20 : gives (engineStep 0x00#8 (start 0xEA#8 0x00#8 0x00#8 0xFF#8 0x30#8 0x0600#16 [(0x0600#16, 0x8D#8), (0x0601#16, 0x01#8), (0x0602#16, 0x06#8)]))
    0xEA#8 0x00#8 0x00#8 0xFF#8 0x30#8 0x0603#16 .running 0 [(0x0601#16, 0xEA#8)] = true := by decide
theorem test_V41_21 : gives (engineStep 0x00#8 (start 0x00#8 0x12#8 0x20#8 0xFF#8 0x30#8 0x0600#16 [(0x0600#16, 0x96#8), (0x0601#16, 0xF0#8)]))
    0x00#8 0x12#8 0x20#8 0xFF#8 0x30#8 0x0602#16 .running 0 [(0x0010#16, 0x12#8)] = true := by decide
theorem test_V41_22 : gives (engineStep 0x00#8 (start 0x00#8 0x01#8 0x09#8 0xFF#8 0x30#8 0x0600#16 [(0x0600#16, 0x94#8), (0x0601#16, 0x10#8)]))
    0x00#8 0x01#8 0x09#8 0xFF#8 0x30#8 0x0602#16 .running 0 [(0x0011#16, 0x09#8)] = true := by decide
theorem test_V41_24 : gives (engineStep 0x00#8 (start 0x00#8 0x44#8 0x00#8 0xFF#8 0x30#8 0x0600#16 [(0x0600#16, 0xAA#8)]))
    0x00#8 0x00#8 0x00#8 0xFF#8 0x32#8 0x0601#16 .running 0 [] = true := by decide
theorem test_V41_25 : gives (engineStep 0x00#8 (start 0x80#8 0x00#8 0x00#8 0xFF#8 0x30#8 0x0600#16 [(0x0600#16, 0xA8#8)]))
    0x80#8 0x00#8 0x80#8 0xFF#8 0xB0#8 0x0601#16 .running 0 [] = true := by decide
theorem test_V41_26 : gives (engineStep 0x00#8 (start 0x01#8 0xFF#8 0x00#8 0xFF#8 0x30#8 0x0600#16 [(0x0600#16, 0x8A#8)]))
    0xFF#8 0xFF#8 0x00#8 0xFF#8 0xB0#8 0x0601#16 .running 0 [] = true := by decide
theorem test_V41_27 : gives (engineStep 0x00#8 (start 0x01#8 0x00#8 0x00#8 0xFF#8 0x30#8 0x0600#16 [(0x0600#16, 0x98#8)]))
    0x00#8 0x00#8 0x00#8 0xFF#8 0x32#8 0x0601#16 .running 0 [] = true := by decide
theorem test_V41_28 : gives (engineStep 0x00#8 (start 0x00#8 0x00#8 0x00#8 0xFF#8 0x30#8 0x0600#16 [(0x0600#16, 0xBA#8)]))
    0x00#8 0xFF#8 0x00#8 0xFF#8 0xB0#8 0x0601#16 .running 0 [] = true := by decide
theorem test_V41_29 : gives (engineStep 0x00#8 (start 0x00#8 0x00#8 0x00#8 0xFF#8 0xB0#8 0x0600#16 [(0x0600#16, 0x9A#8)]))
    0x00#8 0x00#8 0x00#8 0x00#8 0xB0#8 0x0601#16 .running 0 [] = true := by decide
theorem test_V41_30 : gives (engineStep 0x00#8 (start 0x00#8 0x00#8 0x00#8 0xFF#8 0x30#8 0xFFFF#16 [(0xFFFF#16, 0xA9#8), (0x0000#16, 0x77#8)]))
    0x77#8 0x00#8 0x00#8 0xFF#8 0x30#8 0x0001#16 .running 0 [] = true := by decide
theorem test_V42_1 : gives (engineStep 0x00#8 (start 0x00#8 0x00#8 0x00#8 0xFF#8 0x71#8 0x0600#16 [(0x0600#16, 0xE6#8), (0x0601#16, 0x10#8), (0x0010#16, 0xFF#8)]))
    0x00#8 0x00#8 0x00#8 0xFF#8 0x73#8 0x0602#16 .running 0 [(0x0010#16, 0x00#8)] = true := by decide
theorem test_V42_3 : gives (engineStep 0x00#8 (start 0x00#8 0x03#8 0x00#8 0xFF#8 0x30#8 0x0600#16 [(0x0600#16, 0xFE#8), (0x0601#16, 0x00#8), (0x0602#16, 0x02#8), (0x0203#16, 0x09#8)]))
    0x00#8 0x03#8 0x00#8 0xFF#8 0x30#8 0x0603#16 .running 0 [(0x0203#16, 0x0A#8)] = true := by decide
theorem test_V42_4 : gives (engineStep 0x00#8 (start 0x00#8 0x00#8 0x00#8 0xFF#8 0x30#8 0x0600#16 [(0x0600#16, 0xC6#8), (0x0601#16, 0x10#8), (0x0010#16, 0x00#8)]))
    0x00#8 0x00#8 0x00#8 0xFF#8 0xB0#8 0x0602#16 .running 0 [(0x0010#16, 0xFF#8)] = true := by decide
theorem test_V42_5 : gives (engineStep 0x00#8 (start 0x00#8 0x20#8 0x00#8 0xFF#8 0x30#8 0x0600#16 [(0x0600#16, 0xD6#8), (0x0601#16, 0xF0#8), (0x0010#16, 0x01#8)]))
    0x00#8 0x20#8 0x00#8 0xFF#8 0x32#8 0x0602#16 .running 0 [(0x0010#16, 0x00#8)] = true := by decide
theorem test_V42_7 : gives (engineStep 0x00#8 (start 0x00#8 0xFF#8 0x00#8 0xFF#8 0x31#8 0x0600#16 [(0x0600#16, 0xE8#8)]))
    0x00#8 0x00#8 0x00#8 0xFF#8 0x33#8 0x0601#16 .running 0 [] = true := by decide
theorem test_V42_8 : gives (engineStep 0x00#8 (start 0x00#8 0x00#8 0x7F#8 0xFF#8 0x30#8 0x0600#16 [(0x0600#16, 0xC8#8)]))
    0x00#8 0x00#8 0x80#8 0xFF#8 0xB0#8 0x0601#16 .running 0 [] = true := by decide
theorem test_V42_9 : gives (engineStep 0x00#8 (start 0x00#8 0x00#8 0x00#8 0xFF#8 0x30#8 0x0600#16 [(0x0600#16, 0xCA#8)]))
    0x00#8 0xFF#8 0x00#8 0xFF#8 0xB0#8 0x0601#16 .running 0 [] = true := by decide
theorem test_V42_10 : gives (engineStep 0x00#8 (start 0x00#8 0x00#8 0x01#8 0xFF#8 0x30#8 0x0600#16 [(0x0600#16, 0x88#8)]))
    0x00#8 0x00#8 0x00#8 0xFF#8 0x32#8 0x0601#16 .running 0 [] = true := by decide
theorem test_V43_1 : gives (engineStep 0x00#8 (start 0xF0#8 0x00#8 0x00#8 0xFF#8 0x30#8 0x0600#16 [(0x0600#16, 0x29#8), (0x0601#16, 0x0F#8)]))
    0x00#8 0x00#8 0x00#8 0xFF#8 0x32#8 0x0602#16 .running 0 [] = true := by decide
theorem test_V43_2 : gives (engineStep 0x00#8 (start 0xFF#8 0x00#8 0x00#8 0xFF#8 0x30#8 0x0600#16 [(0x0600#16, 0x25#8), (0x0601#16, 0x10#8), (0x0010#16, 0x80#8)]))
    0x80#8 0x00#8 0x00#8 0xFF#8 0xB0#8 0x0602#16 .running 0 [] = true := by decide
theorem test_V43_3 : gives (engineStep 0x00#8 (start 0x00#8 0x00#8 0x00#8 0xFF#8 0x30#8 0x0600#16 [(0x0600#16, 0x09#8), (0x0601#16, 0x00#8)]))
    0x00#8 0x00#8 0x00#8 0xFF#8 0x32#8 0x0602#16 .running 0 [] = true := by decide
theorem test_V43_4 : gives (engineStep 0x00#8 (start 0x01#8 0x00#8 0x00#8 0xFF#8 0x30#8 0x0600#16 [(0x0600#16, 0x0D#8), (0x0601#16, 0x00#8), (0x0602#16, 0x02#8), (0x0200#16, 0x80#8)]))
    0x81#8 0x00#8 0x00#8 0xFF#8 0xB0#8 0x0603#16 .running 0 [] = true := by decide
theorem test_V43_5 : gives (engineStep 0x00#8 (start 0xFF#8 0x00#8 0x00#8 0xFF#8 0x30#8 0x0600#16 [(0x0600#16, 0x49#8), (0x0601#16, 0xFF#8)]))
    0x00#8 0x00#8 0x00#8 0xFF#8 0x32#8 0x0602#16 .running 0 [] = true := by decide
theorem test_V43_6 : gives (engineStep 0x00#8 (start 0x0F#8 0x00#8 0x01#8 0xFF#8 0x30#8 0x0600#16 [(0x0600#16, 0x51#8), (0x0601#16, 0x10#8), (0x0010#16, 0x00#8), (0x0011#16, 0x03#8), (0x0301#16, 0xF0#8)]))
    0xFF#8 0x00#8 0x01#8 0xFF#8 0xB0#8 0x0602#16 .running 0 [] = true := by decide
theorem test_V43_7 : gives (engineStep 0x00#8 (start 0x00#8 0x00#8 0x00#8 0xFF#8 0x30#8 0x0600#16 [(0x0600#16, 0x24#8), (0x0601#16, 0x10#8), (0x0010#16, 0xC0#8)]))
    0x00#8 0x00#8 0x00#8 0xFF#8 0xF2#8 0x0602#16 .running 0 [] = true := by decide
theorem test_V43_8 : gives (engineStep 0x00#8 (start 0xFF#8 0x00#8 0x00#8 0xFF#8 0xF0#8 0x0600#16 [(0x0600#16, 0x2C#8), (0x0601#16, 0x00#8), (0x0602#16, 0x02#8), (0x0200#16, 0x01#8)]))
    0xFF#8 0x00#8 0x00#8 0xFF#8 0x30#8 0x0603#16 .running 0 [] = true := by decide
theorem test_V43_11 : gives (engineStep 0x00#8 (start 0x01#8 0x00#8 0x00#8 0xFF#8 0x31#8 0x0600#16 [(0x0600#16, 0x69#8), (0x0601#16, 0x01#8)]))
    0x03#8 0x00#8 0x00#8 0xFF#8 0x30#8 0x0602#16 .running 0 [] = true := by decide
theorem test_V43_13 : gives (engineStep 0x00#8 (start 0x7F#8 0x00#8 0x00#8 0xFF#8 0x30#8 0x0600#16 [(0x0600#16, 0x69#8), (0x0601#16, 0x01#8)]))
    0x80#8 0x00#8 0x00#8 0xFF#8 0xF0#8 0x0602#16 .running 0 [] = true := by decide
theorem test_V43_24 : gives (engineStep 0x00#8 (start 0x05#8 0x00#8 0x00#8 0xFF#8 0x30#8 0x0600#16 [(0x0600#16, 0xE9#8), (0x0601#16, 0x03#8)]))
    0x01#8 0x00#8 0x00#8 0xFF#8 0x31#8 0x0602#16 .running 0 [] = true := by decide
theorem test_V43_27 : gives (engineStep 0x00#8 (start 0x7F#8 0x00#8 0x00#8 0xFF#8 0x31#8 0x0600#16 [(0x0600#16, 0xE9#8), (0x0601#16, 0xFF#8)]))
    0x80#8 0x00#8 0x00#8 0xFF#8 0xF0#8 0x0602#16 .running 0 [] = true := by decide
theorem test_V44_1 : gives (engineStep 0x00#8 (start 0x80#8 0x00#8 0x00#8 0xFF#8 0x30#8 0x0600#16 [(0x0600#16, 0x0A#8)]))
    0x00#8 0x00#8 0x00#8 0xFF#8 0x33#8 0x0601#16 .running 0 [] = true := by decide
theorem test_V44_3 : gives (engineStep 0x00#8 (start 0x33#8 0x00#8 0x00#8 0xFF#8 0x30#8 0x0600#16 [(0x0600#16, 0x06#8), (0x0601#16, 0x10#8), (0x0010#16, 0xFF#8)]))
    0x33#8 0x00#8 0x00#8 0xFF#8 0xB1#8 0x0602#16 .running 0 [(0x0010#16, 0xFE#8)] = true := by decide
theorem test_V44_5 : gives (engineStep 0x00#8 (start 0x80#8 0x00#8 0x00#8 0xFF#8 0xB1#8 0x0600#16 [(0x0600#16, 0x4A#8)]))
    0x40#8 0x00#8 0x00#8 0xFF#8 0x30#8 0x0601#16 .running 0 [] = true := by decide
theorem test_V44_6 : gives (engineStep 0x00#8 (start 0x00#8 0x01#8 0x00#8 0xFF#8 0x30#8 0x0600#16 [(0x0600#16, 0x5E#8), (0x0601#16, 0x00#8), (0x0602#16, 0x02#8), (0x0201#16, 0xFE#8)]))
    0x00#8 0x01#8 0x00#8 0xFF#8 0x30#8 0x0603#16 .running 0 [(0x0201#16, 0x7F#8)] = true := by decide
theorem test_V44_7 : gives (engineStep 0x00#8 (start 0x80#8 0x00#8 0x00#8 0xFF#8 0x30#8 0x0600#16 [(0x0600#16, 0x2A#8)]))
    0x00#8 0x00#8 0x00#8 0xFF#8 0x33#8 0x0601#16 .running 0 [] = true := by decide
theorem test_V44_9 : gives (engineStep 0x00#8 (start 0x00#8 0x01#8 0x00#8 0xFF#8 0x31#8 0x0600#16 [(0x0600#16, 0x36#8), (0x0601#16, 0x10#8), (0x0011#16, 0x7F#8)]))
    0x00#8 0x01#8 0x00#8 0xFF#8 0xB0#8 0x0602#16 .running 0 [(0x0011#16, 0xFF#8)] = true := by decide
theorem test_V44_11 : gives (engineStep 0x00#8 (start 0x00#8 0x00#8 0x00#8 0xFF#8 0x31#8 0x0600#16 [(0x0600#16, 0x6A#8)]))
    0x80#8 0x00#8 0x00#8 0xFF#8 0xB0#8 0x0601#16 .running 0 [] = true := by decide
theorem test_V44_12 : gives (engineStep 0x00#8 (start 0x00#8 0x00#8 0x00#8 0xFF#8 0x31#8 0x0600#16 [(0x0600#16, 0x6E#8), (0x0601#16, 0x00#8), (0x0602#16, 0x02#8), (0x0200#16, 0xFF#8)]))
    0x00#8 0x00#8 0x00#8 0xFF#8 0xB1#8 0x0603#16 .running 0 [(0x0200#16, 0xFF#8)] = true := by decide
theorem test_V45_3 : gives (engineStep 0x00#8 (start 0x05#8 0x00#8 0x00#8 0xFF#8 0x31#8 0x0600#16 [(0x0600#16, 0xC9#8), (0x0601#16, 0x06#8)]))
    0x05#8 0x00#8 0x00#8 0xFF#8 0xB0#8 0x0602#16 .running 0 [] = true := by decide
theorem test_V45_8 : gives (engineStep 0x00#8 (start 0x00#8 0x00#8 0x00#8 0xFF#8 0x30#8 0x0600#16 [(0x0600#16, 0xD1#8), (0x0601#16, 0x10#8), (0x0010#16, 0x00#8), (0x0011#16, 0x03#8), (0x0300#16, 0x00#8)]))
    0x00#8 0x00#8 0x00#8 0xFF#8 0x33#8 0x0602#16 .running 0 [] = true := by decide
theorem test_V45_9 : gives (engineStep 0x00#8 (start 0x00#8 0x03#8 0x00#8 0xFF#8 0x30#8 0x0600#16 [(0x0600#16, 0xE0#8), (0x0601#16, 0x10#8)]))
    0x00#8 0x03#8 0x00#8 0xFF#8 0xB0#8 0x0602#16 .running 0 [] = true := by decide
theorem test_V45_11 : gives (engineStep 0x00#8 (start 0x00#8 0x01#8 0x00#8 0xFF#8 0x30#8 0x0600#16 [(0x0600#16, 0xEC#8), (0x0601#16, 0x00#8), (0x0602#16, 0x02#8), (0x0200#16, 0x00#8)]))
    0x00#8 0x01#8 0x00#8 0xFF#8 0x31#8 0x0603#16 .running 0 [] = true := by decide
theorem test_V45_12 : gives (engineStep 0x00#8 (start 0x00#8 0x00#8 0x80#8 0xFF#8 0x30#8 0x0600#16 [(0x0600#16, 0xC0#8), (0x0601#16, 0x00#8)]))
    0x00#8 0x00#8 0x80#8 0xFF#8 0xB1#8 0x0602#16 .running 0 [] = true := by decide
theorem test_V45_14 : gives (engineStep 0x00#8 (start 0x00#8 0x00#8 0x00#8 0xFF#8 0x30#8 0x0600#16 [(0x0600#16, 0xCC#8), (0x0601#16, 0x00#8), (0x0602#16, 0x02#8), (0x0200#16, 0x00#8)]))
    0x00#8 0x00#8 0x00#8 0xFF#8 0x33#8 0x0603#16 .running 0 [] = true := by decide
theorem test_V46_1 : gives (engineStep 0x00#8 (start 0x00#8 0x00#8 0x00#8 0xFF#8 0x30#8 0x0600#16 [(0x0600#16, 0x4C#8), (0x0601#16, 0x34#8), (0x0602#16, 0x12#8)]))
    0x00#8 0x00#8 0x00#8 0xFF#8 0x30#8 0x1234#16 .running 0 [] = true := by decide
theorem test_V46_3 : gives (engineStep 0x00#8 (start 0x00#8 0x00#8 0x00#8 0xFF#8 0x30#8 0x0600#16 [(0x0600#16, 0x4C#8), (0x0601#16, 0x00#8), (0x0602#16, 0x00#8)]))
    0x00#8 0x00#8 0x00#8 0xFF#8 0x30#8 0x0000#16 .stopped 0 [] = true := by decide
theorem test_V46_5 : gives (engineStep 0x00#8 (start 0x00#8 0x00#8 0x00#8 0xFF#8 0x30#8 0x0600#16 [(0x0600#16, 0x6C#8), (0x0601#16, 0xFF#8), (0x0602#16, 0x02#8), (0x0200#16, 0x12#8), (0x02FF#16, 0x34#8), (0x0300#16, 0x56#8)]))
    0x00#8 0x00#8 0x00#8 0xFF#8 0x30#8 0x1234#16 .running 0 [] = true := by decide
theorem test_V46_8 : gives (engineStep 0x00#8 (start 0x00#8 0x00#8 0x00#8 0x00#8 0x30#8 0x0600#16 [(0x0600#16, 0x20#8), (0x0601#16, 0x34#8), (0x0602#16, 0x12#8)]))
    0x00#8 0x00#8 0x00#8 0xFE#8 0x30#8 0x1234#16 .running 1 [(0x0100#16, 0x06#8), (0x01FF#16, 0x02#8)] = true := by decide
theorem test_V46_9 : gives (engineStep 0x00#8 (start 0x00#8 0x00#8 0x00#8 0xFF#8 0x30#8 0xFFFD#16 [(0xFFFD#16, 0x20#8), (0xFFFE#16, 0x00#8), (0xFFFF#16, 0x07#8)]))
    0x00#8 0x00#8 0x00#8 0xFD#8 0x30#8 0x0700#16 .running 0 [(0x01FE#16, 0xFF#8), (0x01FF#16, 0xFF#8)] = true := by decide
theorem test_V46_10 : gives (engineStep 0x00#8 (start 0x00#8 0x00#8 0x00#8 0xFD#8 0x30#8 0x0610#16 [(0x0610#16, 0x60#8), (0x01FE#16, 0x02#8), (0x01FF#16, 0x06#8)]))
    0x00#8 0x00#8 0x00#8 0xFF#8 0x30#8 0x0603#16 .running 0 [] = true := by decide
theorem test_V46_11 : gives (engineStep 0x00#8 (start 0x00#8 0x00#8 0x00#8 0xFF#8 0x30#8 0x0600#16 [(0x0600#16, 0x60#8), (0x0100#16, 0x33#8), (0x0101#16, 0x22#8)]))
    0x00#8 0x00#8 0x00#8 0x01#8 0x30#8 0x2234#16 .running 1 [] = true := by decide
theorem test_V46_13 : gives (engineStep 0x00#8 (start 0x00#8 0x00#8 0x00#8 0xFF#8 0x30#8 0x0600#16 [(0x0600#16, 0x90#8), (0x0601#16, 0x05#8)]))
    0x00#8 0x00#8 0x00#8 0xFF#8 0x30#8 0x0607#16 .running 0 [] = true := by decide
theorem test_V46_14 : gives (engineStep 0x00#8 (start 0x00#8 0x00#8 0x00#8 0xFF#8 0x31#8 0x0600#16 [(0x0600#16, 0x90#8), (0x0601#16, 0x05#8)]))
    0x00#8 0x00#8 0x00#8 0xFF#8 0x31#8 0x0602#16 .running 0 [] = true := by decide
theorem test_V46_15 : gives (engineStep 0x00#8 (start 0x00#8 0x00#8 0x00#8 0xFF#8 0x31#8 0x0610#16 [(0x0610#16, 0xB0#8), (0x0611#16, 0xFB#8)]))
    0x00#8 0x00#8 0x00#8 0xFF#8 0x31#8 0x060D#16 .running 0 [] = true := by decide
theorem test_V46_17 : gives (engineStep 0x00#8 (start 0x00#8 0x00#8 0x00#8 0xFF#8 0x32#8 0x0600#16 [(0x0600#16, 0xF0#8), (0x0601#16, 0x02#8)]))
    0x00#8 0x00#8 0x00#8 0xFF#8 0x32#8 0x0604#16 .running 0 [] = true := by decide
theorem test_V46_21 : gives (engineStep 0x00#8 (start 0x00#8 0x00#8 0x00#8 0xFF#8 0xB0#8 0x0600#16 [(0x0600#16, 0x30#8), (0x0601#16, 0x7F#8)]))
    0x00#8 0x00#8 0x00#8 0xFF#8 0xB0#8 0x0681#16 .running 0 [] = true := by decide
theorem test_V46_23 : gives (engineStep 0x00#8 (start 0x00#8 0x00#8 0x00#8 0xFF#8 0x30#8 0x0600#16 [(0x0600#16, 0x10#8), (0x0601#16, 0x80#8)]))
    0x00#8 0x00#8 0x00#8 0xFF#8 0x30#8 0x0582#16 .running 0 [] = true := by decide
theorem test_V46_26 : gives (engineStep 0x00#8 (start 0x00#8 0x00#8 0x00#8 0xFF#8 0x70#8 0x0600#16 [(0x0600#16, 0x50#8), (0x0601#16, 0x10#8)]))
    0x00#8 0x00#8 0x00#8 0xFF#8 0x70#8 0x0602#16 .running 0 [] = true := by decide
theorem test_V46_27 : gives (engineStep 0x00#8 (start 0x00#8 0x00#8 0x00#8 0xFF#8 0x70#8 0x0600#16 [(0x0600#16, 0x70#8), (0x0601#16, 0x10#8)]))
    0x00#8 0x00#8 0x00#8 0xFF#8 0x70#8 0x0612#16 .running 0 [] = true := by decide
theorem test_V46_30 : gives (engineStep 0x00#8 (start 0x00#8 0x00#8 0x00#8 0xFF#8 0x30#8 0x0010#16 [(0x0010#16, 0xD0#8), (0x0011#16, 0x80#8)]))
    0x00#8 0x00#8 0x00#8 0xFF#8 0x30#8 0xFF92#16 .running 0 [] = true := by decide
theorem test_V46_32 : gives (engineStep 0x00#8 (start 0x00#8 0x00#8 0x00#8 0xFF#8 0x30#8 0xFFF8#16 [(0xFFF8#16, 0xD0#8), (0xFFF9#16, 0x06#8)]))
    0x00#8 0x00#8 0x00#8 0xFF#8 0x30#8 0x0000#16 .stopped 0 [] = true := by decide
theorem test_V47_2 : gives (engineStep 0x00#8 (start 0x42#8 0x00#8 0x00#8 0x00#8 0x30#8 0x0600#16 [(0x0600#16, 0x48#8)]))
    0x42#8 0x00#8 0x00#8 0xFF#8 0x30#8 0x0601#16 .running 1 [(0x0100#16, 0x42#8)] = true := by decide
theorem test_V47_3 : gives (engineStep 0x00#8 (start 0x55#8 0x00#8 0x00#8 0xFE#8 0x30#8 0x0600#16 [(0x0600#16, 0x68#8), (0x01FF#16, 0x00#8)]))
    0x00#8 0x00#8 0x00#8 0xFF#8 0x32#8 0x0601#16 .running 0 [] = true := by decide
theorem test_V47_4 : gives (engineStep 0x00#8 (start 0x00#8 0x00#8 0x00#8 0xFF#8 0x30#8 0x0600#16 [(0x0600#16, 0x68#8), (0x0100#16, 0x80#8)]))
    0x80#8 0x00#8 0x00#8 0x00#8 0xB0#8 0x0601#16 .running 1 [] = true := by decide
theorem test_V47_6 : gives (engineStep 0x00#8 (start 0x00#8 0x00#8 0x00#8 0x80#8 0xFB#8 0x0600#16 [(0x0600#16, 0x08#8)]))
    0x00#8 0x00#8 0x00#8 0x7F#8 0xFB#8 0x0601#16 .running 0 [(0x0180#16, 0xFB#8)] = true := by decide
theorem test_V47_7 : gives (engineStep 0x00#8 (start 0x00#8 0x00#8 0x00#8 0xFF#8 0xFB#8 0x0600#16 [(0x0600#16, 0x18#8)]))
    0x00#8 0x00#8 0x00#8 0xFF#8 0xFA#8 0x0601#16 .running 0 [] = true := by decide
theorem test_V47_8 : gives (engineStep 0x00#8 (start 0x00#8 0x00#8 0x00#8 0xFF#8 0x30#8 0x0600#16 [(0x0600#16, 0x38#8)]))
    0x00#8 0x00#8 0x00#8 0xFF#8 0x31#8 0x0601#16 .running 0 [] = true := by decide
theorem test_V47_9 : gives (engineStep 0x00#8 (start 0x00#8 0x00#8 0x00#8 0xFF#8 0xFB#8 0x0600#16 [(0x0600#16, 0xB8#8)]))
    0x00#8 0x00#8 0x00#8 0xFF#8 0xBB#8 0x0601#16 .running 0 [] = true := by decide
theorem test_V47_10 : gives (engineStep 0x00#8 (start 0x00#8 0x00#8 0x00#8 0xFF#8 0xFB#8 0x0600#16 [(0x0600#16, 0xD8#8)]))
    0x00#8 0x00#8 0x00#8 0xFF#8 0xF3#8 0x0601#16 .running 0 [] = true := by decide
theorem test_V47_11 : gives (engineStep 0x00#8 (start 0x00#8 0x00#8 0x00#8 0xFF#8 0x30#8 0x0600#16 [(0x0600#16, 0xF8#8)]))
    0x00#8 0x00#8 0x00#8 0xFF#8 0x38#8 0x0601#16 .running 0 [] = true := by decide
theorem test_V47_12 : gives (engineStep 0x00#8 (start 0x01#8 0x02#8 0x03#8 0xFF#8 0xFB#8 0x0600#16 [(0x0600#16, 0xEA#8)]))
    0x01#8 0x02#8 0x03#8 0xFF#8 0xFB#8 0x0601#16 .running 0 [] = true := by decide
theorem test_V47_13 : gives (engineStep 0x00#8 (start 0x01#8 0x00#8 0x00#8 0xFF#8 0xFB#8 0x0600#16 [(0x0600#16, 0x00#8)]))
    0x01#8 0x00#8 0x00#8 0xFF#8 0xFB#8 0x0601#16 .stopped 0 [] = true := by decide
theorem test_V47_14 : gives (engineStep 0x00#8 (start 0x00#8 0x00#8 0x00#8 0xFF#8 0x30#8 0xFFFF#16 [(0xFFFF#16, 0x00#8)]))
    0x00#8 0x00#8 0x00#8 0xFF#8 0x30#8 0x0000#16 .stopped 0 [] = true := by decide
theorem test_V60_8 : gives (engineStep 0xEA#8 (start 0x00#8 0x00#8 0x00#8 0xFF#8 0x30#8 0x00FE#16 [(0x00FE#16, 0xEA#8)]))
    0x00#8 0x00#8 0x00#8 0xFF#8 0x30#8 0x00FF#16 .running 0 [(0x00FE#16, 0xEA#8)] = true := by decide
theorem test_V60_10 : gives (engineStep 0x9C#8 (start 0x00#8 0x00#8 0x00#8 0xFF#8 0x30#8 0x00FD#16 [(0x00FD#16, 0xA9#8), (0x00FE#16, 0x00#8)]))
    0x9C#8 0x00#8 0x00#8 0xFF#8 0xB0#8 0x00FF#16 .running 0 [(0x00FE#16, 0x9C#8)] = true := by decide
theorem test_V60_11 : gives (engineStep 0x00#8 (start 0x00#8 0x00#8 0x00#8 0xFF#8 0x30#8 0x0000#16 [(0x0000#16, 0xA9#8), (0x0001#16, 0x01#8)]))
    0x01#8 0x00#8 0x00#8 0xFF#8 0x30#8 0x0002#16 .running 0 [] = true := by decide

/-- V46.6: the other value of the parameter `JMP_INDIRECT_PAGE_WRAP`. -/
theorem test_V46_6 : (start 0x00#8 0x00#8 0x00#8 0xFF#8 0x30#8 0x0600#16 [(0x0200#16, 0x12#8), (0x02FF#16, 0x34#8),
    (0x0300#16, 0x56#8)]).indirectTarget false 0x02FF#16 = 0x5634#16 := by decide

/-- V43.37: with D = 1 the operand is fetched and D, X and SP stay; nothing is asked of A, C, V, Z, N (log entry 5). -/
theorem test_V43_37_frame : leaves (exec (.adcImm 0x01) (start 0x09#8 0x00#8 0x00#8 0xFF#8 0x38#8 0x0601#16 []))
    (fun t => t.pc = 0x0602#16 && t.x = 0x00#8 && t.sp = 0xFF#8) = true := by decide

/-- V60.1: byte 02 latches UnknownOpcode with its address and stops the engine, PC past the byte. -/
theorem test_V60_1 : leaves (engineStep 0x5C#8 (start 0x11#8 0x00#8 0x00#8 0xFF#8 0x33#8 0x0600#16 [(0x0600#16, 0x02#8)]))
    (fun t => t.faultLatch = some (.unknownOpcode 0x0600#16 0x02#8) && t.a = 0x11#8 && t.p = 0x33#8 && t.pc = 0x0601#16 &&
      t.read 0x00FE#16 = 0x5C#8 && t.run = .stopped) = true := by decide

/-- V60.6: a fault at 0xFFFF leaves PC = 0x0000 and is a fault all the same. -/
theorem test_V60_6 : leaves (engineStep 0x00#8 (start 0x00#8 0x00#8 0x00#8 0xFF#8 0x30#8 0xFFFF#16 [(0xFFFF#16, 0xFF#8)]))
    (fun t => t.faultLatch = some (.unknownOpcode 0xFFFF#16 0xFF#8) && t.pc = 0x0000#16 && t.run = .stopped) = true := by
  decide

/-- V60.9: the byte at 0x00FE that is fetched is the byte drawn. -/
theorem test_V60_9 : leaves (engineStep 0x03#8 (start 0x00#8 0x00#8 0x00#8 0xFF#8 0x30#8 0x00FE#16 [(0x00FE#16, 0xEA#8)]))
    (fun t => t.faultLatch = some (.unknownOpcode 0x00FE#16 0x03#8) && t.pc = 0x00FF#16) = true := by decide

/-- `withFetchWord` at reset: the next step runs LDA #$05 (V41 family, R101), whatever the byte drawn. -/
theorem test_withFetchWord : leaves (step (State.reset.withFetchWord 16 0x05A9))
    (fun t => t.a = 0x05#8 && t.pc = 0x0602#16 && t.run = .running && t.draws = 1) = true := by decide

/-- The reset state is Stopped: the pacing loop takes no step (R101, R242). -/
theorem test_step_at_reset : leaves (step State.reset) (fun t => t = State.reset) = true := by decide

/-! ## The host interface (section 4 of the vectors) -/

/-- Whether a move answers this reply and a next state of which a check holds. -/
def answers (r : MoveResult) (reply : Reply) (check : State → Bool) : Bool :=
  match r with
  | .next (t, re) => re = reply && check t
  | _ => false

/-- H1, on five cells: RESET clears 0x0000 to 0x05FF and no further. -/
theorem test_H1 : answers (hostMove .reset ((start 0x01#8 0x02#8 0x03#8 0x04#8 0xFB#8 0x1234#16 [(0x0000#16, 0x55#8),
      (0x00FE#16, 0x55#8), (0x05FF#16, 0x55#8), (0x0600#16, 0x55#8), (0xFFFF#16, 0x55#8)]).setRun .stopped)) .done
    (fun t => t.read 0x0000#16 = 0x00#8 && t.read 0x00FE#16 = 0x00#8 && t.read 0x05FF#16 = 0x00#8 &&
      t.read 0x0600#16 = 0x55#8 && t.read 0xFFFF#16 = 0x55#8 && t.a = 0x00#8 && t.x = 0x00#8 && t.y = 0x00#8 &&
      t.sp = 0xFF#8 && t.p = 0x30#8 && t.pc = 0x0600#16 && t.run = .stopped) = true := by decide

/-- H6: STEP from Stopped runs one instruction and leaves RUN. -/
theorem test_H6 : answers (hostMove .step ((start 0x00#8 0x00#8 0x00#8 0xFF#8 0x30#8 0x0600#16 [(0x0600#16, 0xA9#8),
      (0x0601#16, 0x05#8)]).setRun .stopped)) .done
    (fun t => t.a = 0x05#8 && t.pc = 0x0602#16 && t.run = .stopped) = true := by decide

/-- H7: `flags()` for P = B1. -/
theorem test_H7 : flagChars 0xB1#8 = ['1', '0', '1', '1', '0', '0', '0', '1'] := by decide

/-- H8: a host write keeps the low 8 bits; an address out of range fails. -/
theorem test_H8 : answers (hostMove (.set 0x0600 0x1A9) State.reset) .done (fun t => t.read 0x0600#16 = 0xA9#8) &&
    answers (hostMove (.get 65536) State.reset) (.outOfBounds 65536) (fun t => t = State.reset) &&
    answers (hostMove (.set (-1) 0) State.reset) (.outOfBounds (-1)) (fun t => t = State.reset) = true := by decide

/-! ## Witnesses: each meets the hypotheses of the statement it is named after -/

/-- The engine Running at 0x0600 with bytes placed there. -/
def running (cells : List (Word × Byte)) : State := start 0x00#8 0x00#8 0x00#8 0xFF#8 0x30#8 0x0600#16 cells

theorem witness_EncodeInvertsDecode : ∃ bytes rest i, decode bytes = .ok (i, rest) :=
  ⟨[0x4C#8, 0x00#8, 0x06#8, 0xEA#8], [0xEA#8], .jmpAbs 0x0600, rfl⟩

theorem witness_StepRunsDecodedInstruction : ∃ (s : State) (i : Instr) (rest : List Byte),
    s.run = .running ∧ s.hold = .free ∧ s.faultLatch = none ∧
      let s1 := (s.setDraws (s.draws + 1)).write 0x00FE#16 (Config.rnd s.draws)
      decode [s1.read s.pc, s1.read (s.pc + 1), s1.read (s.pc + 2)] = .ok (i, rest) :=
  ⟨running [(0x0600#16, 0xA9#8), (0x0601#16, 0x05#8)], .ldaImm 0x05, [0x00#8], by decide, by decide, by decide, rfl⟩

/-- The three clauses: enabled, not enabled, Free. -/
theorem witness_StepTakenExactlyWhenEnabled :
    (∃ s : State, s.faultLatch = none ∧ s.run = .running ∧ s.hold = .free) ∧
    (∃ s : State, s.faultLatch = none ∧ ¬(s.run = .running ∧ s.hold = .free)) ∧
    (∃ s : State, s.faultLatch = none ∧ s.run = .stopped ∧ s.hold = .free) :=
  ⟨⟨running [], by decide⟩, ⟨(running []).setHold .held, by decide⟩, ⟨State.reset, by decide⟩⟩

/-- Unbound and bound. -/
theorem witness_AbsentOpcodeLatchesAndStopsOrIsRefused :
    (∃ (r : Byte) (s : State), Forms.absentByte ((s.write 0x00FE#16 r).read s.pc) = true ∧
      (s.write 0x00FE#16 r).read s.pc ∉ s.extTable) ∧
    (∃ (r : Byte) (s : State), Forms.absentByte ((s.write 0x00FE#16 r).read s.pc) = true ∧
      (s.write 0x00FE#16 r).read s.pc ∈ s.extTable) :=
  ⟨⟨0x00#8, running [(0x0600#16, 0x02#8)], by decide⟩,
    ⟨0x00#8, (running [(0x0600#16, 0x02#8)]).setExtTable [0x02#8], by decide⟩⟩

theorem witness_FaultIsFinalUntilReset : ∃ (s : State) (f : FaultRecord), s.faultLatch = some f ∧ s.run = .stopped :=
  ⟨State.reset.setFaultLatch (some (.unknownOpcode 0x0600#16 0x02#8)), _, rfl, by decide⟩

/-- Both clauses: a jump to 0x0000, and a NOP. -/
theorem witness_PcZeroStopsTheEngine :
    (∃ (r : Byte) (s t : State), engineStep r s = .next t ∧ t.pc = 0x0000#16) ∧
    (∃ (r : Byte) (s t : State), engineStep r s = .next t ∧ t.pc ≠ 0x0000#16 ∧ t.faultLatch = s.faultLatch ∧
      s.faultLatch = none ∧ s.stopRequested = false ∧ (s.write 0x00FE#16 r).read s.pc ≠ 0x00#8) :=
  ⟨⟨0x00#8, running [(0x0600#16, 0x4C#8)], _, rfl, by decide⟩,
    ⟨0x00#8, running [(0x0600#16, 0xEA#8)], _, rfl, by decide⟩⟩

theorem witness_BrkStopsAfterOneByte : ∃ (r : Byte) (s : State), (s.write 0x00FE#16 r).read s.pc = 0x00#8 :=
  ⟨0xAB#8, running [], by decide⟩

theorem witness_NopDoesNothing : ∃ (r : Byte) (s : State), (s.write 0x00FE#16 r).read s.pc = 0xEA#8 ∧
    s.stopRequested = false ∧ s.pc ≠ 0xFFFF#16 := ⟨0xAB#8, running [(0x0600#16, 0xEA#8)], by decide⟩

theorem witness_MemoryReadsWhatWasWritten : ∃ (m : Memory) (addr b : Word), b ≠ addr ∧ m.wf :=
  ⟨{ cells := [(0x0600, 0xA9#8)], rnd := 0x00#8 }, 0xFFFF#16, 0x0000#16, by decide, by decide⟩

theorem witness_EqualMemoriesAreEqualData : ∃ m m' : Memory, m.wf ∧ m'.wf ∧ ∀ b : Word, m.read b = m'.read b :=
  ⟨{ cells := [(0x0600, 0xA9#8)], rnd := 0x07#8 }, { cells := [(0x0600, 0xA9#8)], rnd := 0x07#8 }, by decide, by decide,
    fun _ => rfl⟩

theorem witness_AdcAndSbc_binary : ∃ s : State, s.decimalMode = false ∧ Forms.adc 0x01#8 0x1234#16 ≠ [] ∧
    Forms.sbc 0x01#8 0x1234#16 ≠ [] := ⟨running [], by decide, by decide, by decide⟩

theorem witness_DecimalArithmeticCompletesWithOpenValues : ∃ s : State, s.decimalMode = true :=
  ⟨(running []).setFlag .d true, by decide⟩

/-- RTS in the very state that JSR leaves, the stack pointer wrapping. -/
theorem witness_RtsUndoesJsr : ∃ (w : Word) (s t u v : State), exec (.jsr w) s = .next t ∧ u.sp = t.sp ∧
    u.read (stackAddr s.sp) = t.read (stackAddr s.sp) ∧
    u.read (stackAddr (s.sp - 1)) = t.read (stackAddr (s.sp - 1)) ∧ exec .rts u = .next v :=
  ⟨0x1234#16, (running []).setSp 0x00#8, _, _, _, rfl, rfl, rfl, rfl, rfl⟩

theorem witness_PlaPullsAAndSetsSZ : ∃ s t u : State, exec .pha s = .next t ∧ exec .pla t = .next u :=
  ⟨running [], _, _, rfl, rfl⟩

theorem witness_NonTransfersAdvanceByTheirLength : ∃ (i : Instr) (s t : State),
    Forms.isTransfer i = false ∧ exec i s = .next t := ⟨.ldaAbs 0x1234, running [], _, rfl, rfl⟩

/-- A change of D, a change of V, and an instruction that writes no flag. -/
theorem witness_OnlyNamedInstructionsWriteDVAndReserved :
    (∃ (i : Instr) (s t : State), exec i s = .next t ∧ t.flag .d ≠ s.flag .d) ∧
    (∃ (i : Instr) (s t : State), exec i s = .next t ∧ t.flag .v ≠ s.flag .v) ∧
    (∃ (i : Instr) (s t : State), exec i s = .next t ∧ Forms.writesNoFlag i = true) :=
  ⟨⟨.sed, running [], _, rfl, by decide⟩, ⟨.bitAbs 0x0200, running [(0x0200#16, 0x40#8)], _, rfl, by decide⟩,
    ⟨.staZp 0x10, running [], _, rfl, rfl⟩⟩

/-- The two ranges of addresses at their boundary. -/
theorem witness_ResetZeroesLowMemoryAndRegisters : (0x05FF#16).toNat ≤ 0x05FF ∧ 0x0600 ≤ (0x0600#16).toNat ∧
    ¬(0x0600#16).toNat ≤ 0x05FF ∧ ¬0x0600 ≤ (0x05FF#16).toNat := by decide

theorem witness_RunControlMoves : (∃ s : State, s.faultLatch = none) ∧ (∃ s : State, s.run = .stopped) ∧
    (∃ s : State, s.run = .running) := ⟨⟨State.reset, rfl⟩, ⟨State.reset, rfl⟩, ⟨running [], by decide⟩⟩

/-- The byte that a STEP from a state looks up. -/
def stepByte (s : State) : Byte := (s.write 0x00FE#16 (Config.rnd s.draws)).read s.pc

/-- For each clause: a bound byte, an unbound byte under a non-empty EXT_TABLE, a byte of the table, a step that stops the
engine, a step that leaves RUN = Running, FAULT set, and HOLD = Held. -/
theorem witness_StepCommandLeavesRunUnlessHalted :
    (∃ s : State, s.faultLatch = none ∧ s.hold = .free ∧ stepByte s = 0x02#8 ∧ stepByte s ∈ s.extTable ∧
      Forms.absentByte (stepByte s) = true) ∧
    (∃ s : State, s.faultLatch = none ∧ s.hold = .free ∧ s.extTable ≠ [] ∧ stepByte s ∉ s.extTable ∧
      Forms.absentByte (stepByte s) = true) ∧
    (∃ s : State, s.faultLatch = none ∧ s.hold = .free ∧ stepByte s = 0x00#8) ∧
    (∃ s t : State, s.faultLatch = none ∧ s.hold = .free ∧ s.run = .running ∧ s.stopRequested = false ∧
      stepByte s ≠ 0x00#8 ∧ engineStep (Config.rnd s.draws) (s.setDraws (s.draws + 1)) = .next t ∧
      t.pc ≠ 0x0000#16 ∧ t.faultLatch = none) ∧
    (∃ s : State, s.faultLatch ≠ none) ∧ (∃ s : State, s.faultLatch = none ∧ s.hold = .held) :=
  ⟨⟨(running [(0x0600#16, 0x02#8)]).setExtTable [0x02#8], by decide⟩,
    ⟨(running [(0x0600#16, 0x02#8)]).setExtTable [0xFF#8], by decide⟩,
    ⟨running [], by decide⟩,
    ⟨running [(0x0600#16, 0xEA#8)], _, by decide, by decide, by decide, by decide, by decide, rfl, by decide, by decide⟩,
    ⟨State.reset.setFaultLatch (some (.unknownOpcode 0x0600#16 0x02#8)), by decide⟩,
    ⟨State.reset.setHold .held, by decide⟩⟩

/-- A step that goes on, and a step that is refused. -/
theorem witness_StopInFlightEqualsStopAfterTheStep :
    (∃ s t : State, s.stepEnabled = true ∧ s.stopRequested = false ∧ step s = .next t) ∧
    (∃ (s : State) (r : Refusal), s.stepEnabled = true ∧ s.stopRequested = false ∧ step s = .refused r) :=
  ⟨⟨running [(0x0600#16, 0xEA#8)], _, by decide, by decide, rfl⟩,
    ⟨(running [(0x0600#16, 0x02#8)]).setExtTable [0x02#8], _, by decide, by decide, rfl⟩⟩

/-- A window with an engine move, a read, a START and a STOP in it; and a state of each hold. -/
theorem witness_WindowFreezesTheMachine :
    (∃ (es : List Event) (s t : State), s.hold = .held ∧ (∀ e ∈ es, Forms.quietEvent e = true) ∧
      s.afterAll es = .next t) ∧ (∃ s : State, s.hold = .free) ∧ (∃ s : State, s.hold = .held) :=
  ⟨⟨[.engine, .host (.get 0x0600), .host .stop, .host .start, .engine], (running []).setHold .held, _, by decide,
      by decide, rfl⟩, ⟨State.reset, rfl⟩, ⟨State.reset.setHold .held, rfl⟩⟩

/-- The two ends of the range of addresses, the addresses just outside it, and the engine Running and Free. -/
theorem witness_HostAccessOnlyWhileIdle :
    (∃ s : State, s.run = .stopped ∨ s.hold = .held) ∧ ((0 : Int) ≤ 0 ∧ (0 : Int) ≤ 65535) ∧
    ((0 : Int) ≤ 65535 ∧ (65535 : Int) ≤ 65535) ∧ ¬((0 : Int) ≤ -1 ∧ (-1 : Int) ≤ 65535) ∧
    ¬((0 : Int) ≤ 65536 ∧ (65536 : Int) ≤ 65535) ∧ (∃ s : State, s.run = .running ∧ s.hold = .free) :=
  ⟨⟨State.reset, .inl rfl⟩, by decide, by decide, by decide, by decide, ⟨running [], by decide⟩⟩

theorem witness_BindingIsForAbsentBytesBeforeTheFirstStep :
    (∃ (s : State) (op : Byte), s.draws = 0 ∧ Forms.absentByte op = true) ∧
    (∃ (s : State) (op : Byte), s.draws = 0 ∧ Forms.absentByte op = false) ∧ (∃ s : State, s.draws ≠ 0) :=
  ⟨⟨State.reset, 0xFF#8, by decide⟩, ⟨State.reset, 0x00#8, by decide⟩, ⟨State.reset.setDraws 1, by decide⟩⟩

/-- A good state and a step from it that does something. -/
theorem witness_EveryStepKeepsTheInvariant : ∃ s t : State, s.Inv ∧ step s = .next t ∧ t.run = .running ∧ t.draws = 1 :=
  ⟨running [(0x0600#16, 0xEA#8)], _,
    ⟨by decide, by decide, by decide, by decide, by decide, by decide⟩, rfl, by decide, by decide⟩

/-- A good state and, from it, an engine move, a host's write and a RESET, each answering a next state. -/
theorem witness_EveryEventKeepsTheInvariant :
    (∃ s t : State, s.Inv ∧ s.after .engine = .next t ∧ t.draws = 1) ∧
    (∃ s t : State, s.Inv ∧ s.after (.host (.set 0x0600 0xEA)) = .next t ∧ t.read 0x0600#16 = 0xEA#8) ∧
    (∃ s t : State, s.Inv ∧ s.a ≠ 0x00#8 ∧ s.after (.host .reset) = .next t ∧ t.a = 0x00#8) :=
  ⟨⟨running [(0x0600#16, 0xEA#8)], _, ⟨by decide, by decide, by decide, by decide, by decide, by decide⟩, rfl, by decide⟩,
    ⟨State.reset, _, ⟨by decide, by decide, by decide, by decide, by decide, by decide⟩, rfl, by decide⟩,
    ⟨State.reset.setA 0x01#8, _, ⟨by decide, by decide, by decide, by decide, by decide, by decide⟩, by decide, rfl, by decide⟩⟩

/-- A state that a START and a step reach. -/
theorem witness_ReachableStatesAreGood : ∃ s : State, s.Reachable ∧ s.draws = 1 :=
  ⟨_, ⟨{ cells := [(0x0600, 0xEA#8)], rnd := 0x00#8 }, [.host .start, .engine], by decide, rfl⟩, rfl⟩

end Sys2Proof.Tests
end

/-! PROOFS. The family of spec/10_state.md: the invariant of the reachable states, canonical memories, and what no
instruction does to PC, P and the engine's state. -/

/-! ## The invariant: what each way of leaving a state keeps -/

section
namespace Sys2Proof.Machine

/-- The reset value of P reads 1, 1, 0 in the reserved bits (R16, R29). -/
theorem resetP_reserved : Config.resetP &&& reservedMask = 0x30#8 := by decide

/-- Construction over a canonical image is good (R240). -/
theorem construct_inv {m : Memory} (hm : m.wf) : (State.construct m).Inv :=
  ⟨resetP_reserved, hm, rfl, fun h => absurd rfl h, fun _ h => absurd h List.not_mem_nil, List.nodup_nil⟩

/-- A drawn step keeps the invariant: where it leaves RUN as it was, it leaves FAULT as it was. -/
theorem Drawn.inv {s t : State} (d : Drawn s t) (h : s.Inv) : t.Inv where
  reserved := d.reserved.trans h.reserved
  memory := d.memory h.memory
  noRequest := d.noRequest
  faultStopped hf := by
    rcases d.fault with same | stopped
    · rcases d.run with stopped | ⟨same_run, -⟩
      · exact stopped
      · exact same_run.trans (h.faultStopped (same ▸ hf))
    · exact stopped
  extAbsent := d.ext ▸ h.extAbsent
  extOnce := d.ext ▸ h.extOnce

/-- A request pending before a drawn step is none of the parts that `Drawn` compares. -/
theorem Drawn.of_requestStop {s t : State} (d : Drawn s.requestStop t) : Drawn s t :=
  ⟨d.hold, d.ext, d.draws, d.reserved, d.memory, d.noRequest, d.run, d.fault⟩

theorem step_inv {s t : State} (h : s.Inv) (hst : step s = .next t) : t.Inv := by
  rcases step_cases hst with ⟨-, ⟨-, -, hd⟩ | ⟨-, rfl⟩⟩
  · exact (drawnStep_next hd).inv h
  · exact h

/-- RESET keeps the invariant: P is `RESET_P`, FAULT is cleared, the low cells leave the list (R241). -/
theorem performReset_inv {s : State} (h : s.Inv) : s.performReset.Inv :=
  ⟨resetP_reserved, Memory.clearLow_wf h.memory, h.noRequest, fun hf => absurd rfl hf, h.extAbsent, h.extOnce⟩

theorem start_inv {s : State} (h : s.Inv) (hf : s.faultLatch = none) : (s.setRun .running).Inv :=
  ⟨h.reserved, h.memory, h.noRequest, fun hn => absurd hf hn, h.extAbsent, h.extOnce⟩

theorem stopEngine_inv {s : State} (h : s.Inv) : s.stopEngine.Inv :=
  ⟨h.reserved, h.memory, rfl, fun _ => rfl, h.extAbsent, h.extOnce⟩

theorem setHold_inv {s : State} (h : s.Inv) (v : HoldState) : (s.setHold v).Inv :=
  ⟨h.reserved, h.memory, h.noRequest, h.faultStopped, h.extAbsent, h.extOnce⟩

theorem write_inv {s : State} (h : s.Inv) (addr : Word) (v : Byte) : (s.write addr v).Inv :=
  ⟨h.reserved, Memory.write_wf h.memory addr v, h.noRequest, h.faultStopped, h.extAbsent, h.extOnce⟩

/-- Binding an absent byte keeps the invariant: an older entry for the byte is dropped (R58, log entry 10). -/
theorem bind_inv {s : State} (h : s.Inv) {op : Byte} (hop : lookupOpcode op = none) :
    (s.setExtTable (op :: s.extTable.filter (fun b => b ≠ op))).Inv where
  reserved := h.reserved
  memory := h.memory
  noRequest := h.noRequest
  faultStopped := h.faultStopped
  extAbsent b hb := by
    rcases List.mem_cons.1 hb with rfl | hb
    · exact hop
    · exact h.extAbsent b (List.mem_of_mem_filter hb)
  extOnce := List.nodup_cons.2 ⟨by simp, h.extOnce.filter _⟩

theorem hostMove_inv {m : HostMove} {s t : State} {reply : Reply} (h : s.Inv)
    (hm : hostMove m s = .next (t, reply)) : t.Inv := by
  rcases hostMove_cases hm with ⟨-, -, rfl⟩ | ⟨-, hf, rfl⟩ | ⟨-, rfl⟩ | ⟨-, -, hd⟩ | ⟨-, -, -, hd⟩ | ⟨-, -, rfl⟩ |
    ⟨-, -, rfl⟩ | ⟨addr, value, w, -, -, -, rfl⟩ | ⟨op, -, -, hop, rfl⟩ | rfl
  · exact performReset_inv h
  · exact start_inv h hf
  · exact stopEngine_inv h
  · exact (drawnStep_next hd).of_requestStop.inv h
  · exact (drawnStep_next hd).inv h
  · exact setHold_inv h .held
  · exact setHold_inv h .free
  · exact write_inv h w _
  · exact bind_inv h hop
  · exact h

theorem after_inv {s t : State} {e : Event} (h : s.Inv) (he : s.after e = .next t) : t.Inv := by
  rcases after_cases he with ⟨-, hst⟩ | ⟨m, reply, -, hm⟩
  · exact step_inv h hst
  · exact hostMove_inv h hm

/-- A sequence of events that answers a state did its first event, then the rest. -/
theorem afterAll_cons_next {s t : State} {e : Event} {es : List Event} (h : s.afterAll (e :: es) = .next t) :
    ∃ u, s.after e = .next u ∧ u.afterAll es = .next t := by
  cases hu : s.after e with
  | next u => exact ⟨u, rfl, by simpa only [State.afterAll, hu] using h⟩
  | fault f => simp [State.afterAll, hu] at h
  | refused r => simp [State.afterAll, hu] at h

theorem afterAll_inv {es : List Event} {s t : State} (h : s.Inv) (hes : s.afterAll es = .next t) : t.Inv := by
  induction es generalizing s with
  | nil => injection hes with hst; exact hst ▸ h
  | cons e es ih =>
    obtain ⟨u, hu, hut⟩ := afterAll_cons_next hes
    exact ih (after_inv h hu) hut

end Sys2Proof.Machine

open Sys2Proof Sys2Proof.Machine

/-- Settles O58: the engine's move is nothing or a drawn step, and a drawn step keeps each clause. -/
theorem everyStepKeepsTheInvariant : Obligations.EveryStepKeepsTheInvariant :=
  fun _ _ => step_inv

/-- Settles O60, move by move. -/
theorem everyEventKeepsTheInvariant : Obligations.EveryEventKeepsTheInvariant :=
  fun _ _ _ => after_inv

/-- Settles O59, by induction on the events after construction. -/
theorem reachableStatesAreGood : Obligations.ReachableStatesAreGood := by
  rintro s ⟨m, es, hm, hes⟩
  exact afterAll_inv (construct_inv hm) hes

/-- Settles O57: reset is construction over the empty memory. -/
theorem resetIsGood : Obligations.ResetIsGood :=
  construct_inv (Memory.empty_wf _)

end

/-! ## Canonical memories -/

section
namespace Sys2Proof.Machine

/-- With rising keys, an entry is what its key reads as. -/
theorem readCells_of_mem {c : Host.Cell} {cs : List Host.Cell} (hr : cs.Pairwise fun c d => c.1 < d.1)
    (hc : c ∈ cs) : readCells c.1 cs = c.2 := by
  induction cs with
  | nil => cases hc
  | cons d ds ih =>
    obtain ⟨hd, hds⟩ := List.pairwise_cons.1 hr
    rcases List.mem_cons.1 hc with rfl | hc
    · simp [readCells]
    · rw [readCells, if_neg (hd c hc).ne, ih hds hc]

/-- A key that does not read as an unlisted address is listed, with what it reads as. -/
theorem mem_of_readCells_ne {k : Nat} {cs : List Host.Cell} (h : readCells k cs ≠ Memory.unlisted) :
    (k, readCells k cs) ∈ cs := by
  induction cs with
  | nil => exact absurd rfl h
  | cons d ds ih =>
    by_cases hd : d.1 = k
    · subst hd; simp [readCells]
    · rw [readCells, if_neg hd] at h ⊢
      exact List.mem_cons_of_mem _ (ih h)

theorem Memory.read_rndAddr (m : Memory) : m.read Config.rndAddr = m.rnd := if_pos rfl

/-- A read of any cell but the random-byte cell is a read of the list. -/
theorem Memory.read_of_ne_rndAddr (m : Memory) {b : Word} (hb : b ≠ Config.rndAddr) :
    m.read b = readCells b.toNat m.cells := if_neg hb

/-- What a canonical memory lists is what its cells read as, the random-byte cell and the unlisted value apart. -/
theorem Memory.mem_cells_iff {m : Memory} (hm : m.wf) (c : Host.Cell) :
    c ∈ m.cells ↔ c.2 ≠ Memory.unlisted ∧ ∃ b : Word, b ≠ Config.rndAddr ∧ b.toNat = c.1 ∧ m.read b = c.2 := by
  obtain ⟨rising, entries⟩ := hm
  constructor
  · intro hc
    obtain ⟨hlt, hne, hv⟩ := entries c hc
    have hb : (BitVec.ofNat 16 c.1).toNat = c.1 := Nat.mod_eq_of_lt hlt
    have hrnd : BitVec.ofNat 16 c.1 ≠ Config.rndAddr := fun e => hne (e ▸ hb.symm)
    exact ⟨hv, _, hrnd, hb, by rw [m.read_of_ne_rndAddr hrnd, hb, readCells_of_mem rising hc]⟩
  · rintro ⟨hv, b, hrnd, hb, hread⟩
    rw [m.read_of_ne_rndAddr hrnd, hb] at hread
    have hmem := mem_of_readCells_ne (hread ▸ hv)
    rwa [hread] at hmem

/-- Two lists with rising keys and the same entries are the same list. -/
theorem cells_eq_of_mem_iff {cs ds : List Host.Cell} (hc : cs.Pairwise fun c d => c.1 < d.1)
    (hd : ds.Pairwise fun c d => c.1 < d.1) (h : ∀ c, c ∈ cs ↔ c ∈ ds) : cs = ds :=
  have : Std.Antisymm fun c d : Host.Cell => c.1 < d.1 := ⟨fun _ _ hcd hdc => absurd hcd hdc.asymm⟩
  have : Std.Irrefl fun c d : Host.Cell => c.1 < d.1 := ⟨fun _ => Nat.lt_irrefl _⟩
  hc.eq_of_mem_iff hd h

/-- Canonical memories are extensional: the reads determine the entries. -/
theorem Memory.ext_of_read {m m' : Memory} (hm : m.wf) (hm' : m'.wf) (h : ∀ b, m.read b = m'.read b) : m = m' := by
  have hrnd : m.rnd = m'.rnd := by rw [← m.read_rndAddr, h, m'.read_rndAddr]
  have hcells : m.cells = m'.cells :=
    cells_eq_of_mem_iff hm.1 hm'.1 fun c => by simp only [mem_cells_iff hm, mem_cells_iff hm', h]
  cases m
  cases m'
  exact congr (congrArg Memory.mk hcells) hrnd

end Sys2Proof.Machine

open Sys2Proof Sys2Proof.Machine

/-- Settles O19: the reads of a canonical memory determine its entries, and rising keys determine their order. -/
theorem equalMemoriesAreEqualData : Obligations.EqualMemoriesAreEqualData :=
  fun _ _ => Memory.ext_of_read

end

/-! ## The templates of the instructions

Each meaning is one application of a shared template. `Template.of` names it with its arguments, and `exec_eq_run` says
once for the 147 instructions that exec runs it; a fact about every instruction is then a fact about each template. -/

section
namespace Sys2Proof.Machine

/-- The byte registers that a template can read. -/
inductive Register where
  | a | x | y | sp | p

def Register.value (s : State) : Register → Byte
  | .a => s.a
  | .x => s.x
  | .y => s.y
  | .sp => s.sp
  | .p => s.p

/-- The registers that a load or a transfer can write. -/
inductive Dest where
  | a | x | y

def State.put (s : State) (v : Byte) : Dest → State
  | .a => s.setA v
  | .x => s.setX v
  | .y => s.setY v

@[simp] theorem put_pc (s : State) (v : Byte) (d : Dest) : (s.put v d).pc = s.pc := by cases d <;> rfl
@[simp] theorem put_flag (s : State) (v : Byte) (d : Dest) (f : Flag) : (s.put v d).flag f = s.flag f := by
  cases d <;> rfl

/-- The templates of the meanings, with what an instruction gives them. -/
inductive Template where
  | load (d : Dest) (src : Src)
  | store (r : Register) (m : MemMode)
  /-- A register receives a function of a register, and Z and N follow it: the transfers but TXS; INX, INY, DEX, DEY. -/
  | transfer (d : Dest) (f : Byte → Byte) (r : Register)
  | txs
  | modify (f : Byte → Byte) (m : MemMode)
  | logic (f : Byte → Byte → Byte) (src : Src)
  | arith (op : ArithOp) (binary : Byte → Byte → Bool → ArithResult) (src : Src)
  | bit (src : Src)
  | shift (f : Byte → Bool → ShiftResult) (target : ShiftTarget)
  | compare (r : Register) (src : Src)
  | jump (addr : Word)
  | jumpIndirect (ptr : Word)
  | call (addr : Word)
  | ret
  /-- A branch taken where the flag has the value. -/
  | branch (f : Flag) (value : Bool) (rel : Byte)
  | push (r : Register)
  | pull
  | flag (f : Flag) (value : Bool)
  | nop
  | brk

def Template.run (s : State) : Template → Result
  | .load .a src => loadA src s
  | .load .x src => loadX src s
  | .load .y src => loadY src s
  | .store r m => storeByte (r.value s) m s
  | .transfer d f r => .next ((s.put (f (r.value s)) d).setSZ (f (r.value s)))
  | .txs => execTxs s
  | .modify f m => modifyByte f m s
  | .logic f src => logicA f src s
  | .arith op binary src => arithA op binary src s
  | .bit src => bitTest src s
  | .shift f target => shiftByte f target s
  | .compare r src => compareReg (r.value s) src s
  | .jump addr => execJmpAbs addr s
  | .jumpIndirect ptr => execJmpInd ptr s
  | .call addr => callSubroutine addr s
  | .ret => returnFromSubroutine s
  | .branch f value rel => branchIf (bif value then s.flag f else !s.flag f) rel s
  | .push r => .next (s.push (r.value s))
  | .pull => execPla s
  | .flag f value => .next (s.setFlag f value)
  | .nop => execNop s
  | .brk => execBrk s

/-- The template of each instruction. -/
def Template.of : Instr → Template
  | .ldaImm imm => .load .a (.imm imm)
  | .ldaZp zp => .load .a (.mem (.zp zp))
  | .ldaZpx zp => .load .a (.mem (.zpx zp))
  | .ldaAbs addr => .load .a (.mem (.abs addr))
  | .ldaAbsx addr => .load .a (.mem (.absx addr))
  | .ldaAbsy addr => .load .a (.mem (.absy addr))
  | .ldaIndx zp => .load .a (.mem (.indx zp))
  | .ldaIndy zp => .load .a (.mem (.indy zp))
  | .ldxImm imm => .load .x (.imm imm)
  | .ldxZp zp => .load .x (.mem (.zp zp))
  | .ldxZpy zp => .load .x (.mem (.zpy zp))
  | .ldxAbs addr => .load .x (.mem (.abs addr))
  | .ldxAbsy addr => .load .x (.mem (.absy addr))
  | .ldyImm imm => .load .y (.imm imm)
  | .ldyZp zp => .load .y (.mem (.zp zp))
  | .ldyZpx zp => .load .y (.mem (.zpx zp))
  | .ldyAbs addr => .load .y (.mem (.abs addr))
  | .ldyAbsx addr => .load .y (.mem (.absx addr))
  | .staZp zp => .store .a (.zp zp)
  | .staZpx zp => .store .a (.zpx zp)
  | .staAbs addr => .store .a (.abs addr)
  | .staAbsx addr => .store .a (.absx addr)
  | .staAbsy addr => .store .a (.absy addr)
  | .staIndx zp => .store .a (.indx zp)
  | .staIndy zp => .store .a (.indy zp)
  | .stxZp zp => .store .x (.zp zp)
  | .stxZpy zp => .store .x (.zpy zp)
  | .stxAbs addr => .store .x (.abs addr)
  | .styZp zp => .store .y (.zp zp)
  | .styZpx zp => .store .y (.zpx zp)
  | .styAbs addr => .store .y (.abs addr)
  | .tax => .transfer .x id .a
  | .tay => .transfer .y id .a
  | .txa => .transfer .a id .x
  | .tya => .transfer .a id .y
  | .tsx => .transfer .x id .sp
  | .txs => .txs
  | .incZp zp => .modify (· + 1#8) (.zp zp)
  | .incZpx zp => .modify (· + 1#8) (.zpx zp)
  | .incAbs addr => .modify (· + 1#8) (.abs addr)
  | .incAbsx addr => .modify (· + 1#8) (.absx addr)
  | .decZp zp => .modify (· - 1#8) (.zp zp)
  | .decZpx zp => .modify (· - 1#8) (.zpx zp)
  | .decAbs addr => .modify (· - 1#8) (.abs addr)
  | .decAbsx addr => .modify (· - 1#8) (.absx addr)
  | .inx => .transfer .x (· + 1#8) .x
  | .iny => .transfer .y (· + 1#8) .y
  | .dex => .transfer .x (· - 1#8) .x
  | .dey => .transfer .y (· - 1#8) .y
  | .andImm imm => .logic (· &&& ·) (.imm imm)
  | .andZp zp => .logic (· &&& ·) (.mem (.zp zp))
  | .andZpx zp => .logic (· &&& ·) (.mem (.zpx zp))
  | .andAbs addr => .logic (· &&& ·) (.mem (.abs addr))
  | .andAbsx addr => .logic (· &&& ·) (.mem (.absx addr))
  | .andAbsy addr => .logic (· &&& ·) (.mem (.absy addr))
  | .andIndx zp => .logic (· &&& ·) (.mem (.indx zp))
  | .andIndy zp => .logic (· &&& ·) (.mem (.indy zp))
  | .oraImm imm => .logic (· ||| ·) (.imm imm)
  | .oraZp zp => .logic (· ||| ·) (.mem (.zp zp))
  | .oraZpx zp => .logic (· ||| ·) (.mem (.zpx zp))
  | .oraAbs addr => .logic (· ||| ·) (.mem (.abs addr))
  | .oraAbsx addr => .logic (· ||| ·) (.mem (.absx addr))
  | .oraAbsy addr => .logic (· ||| ·) (.mem (.absy addr))
  | .oraIndx zp => .logic (· ||| ·) (.mem (.indx zp))
  | .oraIndy zp => .logic (· ||| ·) (.mem (.indy zp))
  | .eorImm imm => .logic (· ^^^ ·) (.imm imm)
  | .eorZp zp => .logic (· ^^^ ·) (.mem (.zp zp))
  | .eorZpx zp => .logic (· ^^^ ·) (.mem (.zpx zp))
  | .eorAbs addr => .logic (· ^^^ ·) (.mem (.abs addr))
  | .eorAbsx addr => .logic (· ^^^ ·) (.mem (.absx addr))
  | .eorAbsy addr => .logic (· ^^^ ·) (.mem (.absy addr))
  | .eorIndx zp => .logic (· ^^^ ·) (.mem (.indx zp))
  | .eorIndy zp => .logic (· ^^^ ·) (.mem (.indy zp))
  | .adcImm imm => .arith .adc adcResult (.imm imm)
  | .adcZp zp => .arith .adc adcResult (.mem (.zp zp))
  | .adcZpx zp => .arith .adc adcResult (.mem (.zpx zp))
  | .adcAbs addr => .arith .adc adcResult (.mem (.abs addr))
  | .adcAbsx addr => .arith .adc adcResult (.mem (.absx addr))
  | .adcAbsy addr => .arith .adc adcResult (.mem (.absy addr))
  | .adcIndx zp => .arith .adc adcResult (.mem (.indx zp))
  | .adcIndy zp => .arith .adc adcResult (.mem (.indy zp))
  | .sbcImm imm => .arith .sbc sbcResult (.imm imm)
  | .sbcZp zp => .arith .sbc sbcResult (.mem (.zp zp))
  | .sbcZpx zp => .arith .sbc sbcResult (.mem (.zpx zp))
  | .sbcAbs addr => .arith .sbc sbcResult (.mem (.abs addr))
  | .sbcAbsx addr => .arith .sbc sbcResult (.mem (.absx addr))
  | .sbcAbsy addr => .arith .sbc sbcResult (.mem (.absy addr))
  | .sbcIndx zp => .arith .sbc sbcResult (.mem (.indx zp))
  | .sbcIndy zp => .arith .sbc sbcResult (.mem (.indy zp))
  | .bitZp zp => .bit (.mem (.zp zp))
  | .bitAbs addr => .bit (.mem (.abs addr))
  | .aslAcc => .shift aslResult .acc
  | .aslZp zp => .shift aslResult (.mem (.zp zp))
  | .aslZpx zp => .shift aslResult (.mem (.zpx zp))
  | .aslAbs addr => .shift aslResult (.mem (.abs addr))
  | .aslAbsx addr => .shift aslResult (.mem (.absx addr))
  | .lsrAcc => .shift lsrResult .acc
  | .lsrZp zp => .shift lsrResult (.mem (.zp zp))
  | .lsrZpx zp => .shift lsrResult (.mem (.zpx zp))
  | .lsrAbs addr => .shift lsrResult (.mem (.abs addr))
  | .lsrAbsx addr => .shift lsrResult (.mem (.absx addr))
  | .rolAcc => .shift rolResult .acc
  | .rolZp zp => .shift rolResult (.mem (.zp zp))
  | .rolZpx zp => .shift rolResult (.mem (.zpx zp))
  | .rolAbs addr => .shift rolResult (.mem (.abs addr))
  | .rolAbsx addr => .shift rolResult (.mem (.absx addr))
  | .rorAcc => .shift rorResult .acc
  | .rorZp zp => .shift rorResult (.mem (.zp zp))
  | .rorZpx zp => .shift rorResult (.mem (.zpx zp))
  | .rorAbs addr => .shift rorResult (.mem (.abs addr))
  | .rorAbsx addr => .shift rorResult (.mem (.absx addr))
  | .cmpImm imm => .compare .a (.imm imm)
  | .cmpZp zp => .compare .a (.mem (.zp zp))
  | .cmpZpx zp => .compare .a (.mem (.zpx zp))
  | .cmpAbs addr => .compare .a (.mem (.abs addr))
  | .cmpAbsx addr => .compare .a (.mem (.absx addr))
  | .cmpAbsy addr => .compare .a (.mem (.absy addr))
  | .cmpIndx zp => .compare .a (.mem (.indx zp))
  | .cmpIndy zp => .compare .a (.mem (.indy zp))
  | .cpxImm imm => .compare .x (.imm imm)
  | .cpxZp zp => .compare .x (.mem (.zp zp))
  | .cpxAbs addr => .compare .x (.mem (.abs addr))
  | .cpyImm imm => .compare .y (.imm imm)
  | .cpyZp zp => .compare .y (.mem (.zp zp))
  | .cpyAbs addr => .compare .y (.mem (.abs addr))
  | .jmpAbs addr => .jump addr
  | .jmpInd ptr => .jumpIndirect ptr
  | .jsr addr => .call addr
  | .rts => .ret
  | .bcc rel => .branch .c false rel
  | .bcs rel => .branch .c true rel
  | .beq rel => .branch .z true rel
  | .bne rel => .branch .z false rel
  | .bmi rel => .branch .n true rel
  | .bpl rel => .branch .n false rel
  | .bvc rel => .branch .v false rel
  | .bvs rel => .branch .v true rel
  | .pha => .push .a
  | .pla => .pull
  | .php => .push .p
  | .clc => .flag .c false
  | .sec => .flag .c true
  | .clv => .flag .v false
  | .cld => .flag .d false
  | .sed => .flag .d true
  | .nop => .nop
  | .brk => .brk

theorem exec_eq_run (i : Instr) (s : State) : exec i s = (Template.of i).run s := by
  cases i <;> rfl

/-- How many operand bytes a template consumes; a jump consumes the bytes of its address. -/
def Template.operandBytes : Template → Word
  | .load _ src | .logic _ src | .arith _ _ src | .bit src | .compare _ src => src.operandBytes
  | .store _ m | .modify _ m | .shift _ (.mem m) => m.operandBytes
  | .jump _ | .jumpIndirect _ | .call _ => 2#16
  | .branch _ _ _ => 1#16
  | .transfer _ _ _ | .txs | .shift _ .acc | .ret | .push _ | .pull | .flag _ _ | .nop | .brk => 0#16

/-- The templates that write PC otherwise than by consuming operand bytes. -/
def Template.isTransfer : Template → Bool
  | .jump _ | .jumpIndirect _ | .call _ | .ret | .branch _ _ _ => true
  | _ => false

/-- The flags a template writes. -/
def Template.flags : Template → List Flag
  | .load _ _ | .transfer _ _ _ | .modify _ _ | .logic _ _ | .pull => [.z, .n]
  | .arith _ _ _ => [.c, .v, .z, .n]
  | .bit _ => [.z, .n, .v]
  | .shift _ _ | .compare _ _ => [.c, .z, .n]
  | .flag f _ => [f]
  | .store _ _ | .txs | .jump _ | .jumpIndirect _ | .call _ | .ret | .branch _ _ _ | .push _ | .nop | .brk => []

theorem length_encode (i : Instr) : BitVec.ofNat 16 ((encode i).length - 1) = (Template.of i).operandBytes := by
  cases i <;> rfl

theorem isTransfer_of (i : Instr) : (Template.of i).isTransfer = Forms.isTransfer i := by
  cases i <;> rfl

theorem isEmpty_flags (i : Instr) : (Template.of i).flags.isEmpty = Forms.writesNoFlag i := by
  cases i <;> rfl

theorem contains_v_flags (i : Instr) : (Template.of i).flags.contains .v = Forms.writesV i := by
  cases i <;> rfl

theorem cld_or_sed_of_flags {i : Instr} : .d ∈ (Template.of i).flags → i = .cld ∨ i = .sed := by
  cases i <;> simp [Template.of, Template.flags]

/-- A template completes; unless it is a transfer, PC moves past its operand bytes; it writes no flag but its own. -/
theorem Template.run_spec (tm : Template) (s : State) :
    ∃ t, tm.run s = .next t ∧ (tm.isTransfer = false → t.pc = s.pc + tm.operandBytes) ∧
      ∀ f ∉ tm.flags, t.flag f = s.flag f := by
  cases tm with
  | load d src =>
    cases d
    case a =>
      obtain ⟨t, h, -, -, hpc, frame⟩ := loadA_spec src s
      exact ⟨t, h, fun _ => hpc, fun f hf => frame (.flag f) (by simpa [flags] using hf)⟩
    case x =>
      obtain ⟨t, h, -, -, hpc, frame⟩ := loadX_spec src s
      exact ⟨t, h, fun _ => hpc, fun f hf => frame (.flag f) (by simpa [flags] using hf)⟩
    case y =>
      obtain ⟨t, h, -, -, hpc, frame⟩ := loadY_spec src s
      exact ⟨t, h, fun _ => hpc, fun f hf => frame (.flag f) (by simpa [flags] using hf)⟩
  | store r m =>
    obtain ⟨t, h, -, hpc, frame⟩ := storeByte_spec (r.value s) m s
    exact ⟨t, h, fun _ => hpc, fun f _ => frame (.flag f) (by simp)⟩
  | transfer d f r => exact ⟨_, rfl, by simp [operandBytes], by simp +contextual [flags]⟩
  | modify f m =>
    obtain ⟨t, h, -, -, hpc, frame⟩ := modifyByte_spec f m s
    exact ⟨t, h, fun _ => hpc, fun f hf => frame (.flag f) (by simpa [flags] using hf)⟩
  | logic f src =>
    obtain ⟨t, h, -, -, hpc, frame⟩ := logicA_spec f src s
    exact ⟨t, h, fun _ => hpc, fun f hf => frame (.flag f) (by simpa [flags] using hf)⟩
  | arith op binary src =>
    cases hd : s.decimalMode with
    | false =>
      obtain ⟨t, h, -, -, -, -, hpc, frame⟩ := arithA_binary_spec op binary src s hd
      exact ⟨t, h, fun _ => hpc, fun f hf => frame (.flag f) (by simpa [flags] using hf)⟩
    | true =>
      obtain ⟨t, h, hpc, -, frame⟩ := arithA_decimal_spec op binary src s hd
      exact ⟨t, h, fun _ => hpc, fun f hf => frame (.flag f) (by simpa [flags] using hf)⟩
  | bit src =>
    obtain ⟨t, h, -, -, -, hpc, frame⟩ := bitTest_spec src s
    exact ⟨t, h, fun _ => hpc, fun f hf => frame (.flag f) (by simpa [flags] using hf)⟩
  | shift f target =>
    cases target with
    | acc =>
      obtain ⟨t, h, -, -, -, frame⟩ := shiftByte_acc_spec f s
      exact ⟨t, h, fun _ => (frame .pc (by simp)).trans (BitVec.add_zero _).symm,
        fun f hf => frame (.flag f) (by simpa [flags] using hf)⟩
    | mem m =>
      obtain ⟨t, h, -, -, -, hpc, frame⟩ := shiftByte_mem_spec f m s
      exact ⟨t, h, fun _ => hpc, fun f hf => frame (.flag f) (by simpa [flags] using hf)⟩
  | compare r src =>
    obtain ⟨t, h, -, -, -, hpc, frame⟩ := compareReg_spec (r.value s) src s
    exact ⟨t, h, fun _ => hpc, fun f hf => frame (.flag f) (by simpa [flags] using hf)⟩
  | branch g value rel =>
    obtain ⟨t, h, -, frame⟩ := branchIf_spec (bif value then s.flag g else !s.flag g) rel s
    exact ⟨t, h, nofun, fun f _ => frame (.flag f) (by simp)⟩
  | jump addr | jumpIndirect ptr => exact ⟨_, rfl, nofun, fun f _ => flag_setPc s _ f⟩
  | call addr => exact ⟨_, rfl, nofun, by simp⟩
  | ret => exact ⟨_, rfl, nofun, by simp⟩
  | txs => exact ⟨_, rfl, by simp [operandBytes], by simp⟩
  | push r => exact ⟨_, rfl, by simp [operandBytes], by simp⟩
  | pull => exact ⟨_, rfl, by simp [operandBytes], by simp +contextual [flags]⟩
  | flag g value => exact ⟨_, rfl, by simp [operandBytes], by simp +contextual [flags]⟩
  | nop => exact ⟨_, rfl, by simp [operandBytes], by simp⟩
  | brk => exact ⟨_, rfl, by simp [operandBytes, State.requestStop], by simp [State.requestStop]⟩

/-- The flags and the reserved bits are all of P (R15, R16). -/
theorem p_eq_of_flag_eq {s t : State} (hf : ∀ f, t.flag f = s.flag f)
    (hr : t.p &&& reservedMask = s.p &&& reservedMask) : t.p = s.p := by
  have reserved (i : Nat) (hi : reservedMask.getLsbD i = true) : t.p.getLsbD i = s.p.getLsbD i := by
    simpa [hi] using congrArg (·.getLsbD i) hr
  apply BitVec.eq_of_getLsbD_eq
  intro i hi
  interval_cases i
  · exact hf .c
  · exact hf .z
  · exact reserved 2 rfl
  · exact hf .d
  · exact reserved 4 rfl
  · exact reserved 5 rfl
  · exact hf .v
  · exact hf .n

/-- What `Template.run_spec` says of an instruction: PC by the length of its encoding, and the flags it leaves. -/
theorem exec_spec {i : Instr} {s t : State} (h : exec i s = .next t) :
    (Forms.isTransfer i = false → t.pc = s.pc + BitVec.ofNat 16 ((encode i).length - 1)) ∧
      ∀ f ∉ (Template.of i).flags, t.flag f = s.flag f := by
  obtain ⟨u, hu, hpc, hflags⟩ := (Template.of i).run_spec s
  rw [exec_eq_run, hu] at h
  injection h with h
  subst h
  rw [length_encode, ← isTransfer_of]
  exact ⟨hpc, hflags⟩

/-! ### The engine's state

RUN, FAULT and HOLD replaced by anything, which every operation of the instructions commutes with. -/

def State.withEngine (s : State) (r : RunState) (f : Option FaultRecord) (h : HoldState) : State :=
  ((s.setRun r).setFaultLatch f).setHold h

section
variable (s : State) (r : RunState) (f : Option FaultRecord) (h : HoldState)

theorem consume_withEngine (n : Word) : (s.withEngine r f h).consume n = (s.consume n).withEngine r f h := rfl

theorem setPc_withEngine (w : Word) : (s.withEngine r f h).setPc w = (s.setPc w).withEngine r f h := rfl

theorem pc_withEngine : (s.withEngine r f h).pc = s.pc := rfl

theorem flag_withEngine (g : Flag) : (s.withEngine r f h).flag g = s.flag g := rfl

theorem push_withEngine (v : Byte) : (s.withEngine r f h).push v = (s.push v).withEngine r f h := by
  rw [push_eq, push_eq]; rfl

theorem popState_withEngine : (s.withEngine r f h).popState = s.popState.withEngine r f h := by
  rw [popState_eq, popState_eq]; rfl

theorem popValue_withEngine : (s.withEngine r f h).popValue = s.popValue := by
  rw [popValue_eq, popValue_eq]; rfl

theorem value_withEngine (reg : Register) : reg.value (s.withEngine r f h) = reg.value s := by
  cases reg <;> rfl

theorem put_withEngine (v : Byte) (d : Dest) : (s.withEngine r f h).put v d = (s.put v d).withEngine r f h := by
  cases d <;> rfl

theorem Template.run_withEngine (tm : Template) :
    ∃ t, tm.run s = .next t ∧ tm.run (s.withEngine r f h) = .next (t.withEngine r f h) := by
  cases tm with
  | load d src => cases d <;> cases src <;> exact ⟨_, rfl, rfl⟩
  | store reg m => exact ⟨_, rfl, by rw [run, value_withEngine]; rfl⟩
  | transfer d g reg => exact ⟨_, rfl, by rw [run, value_withEngine, put_withEngine]; rfl⟩
  | arith op binary src =>
    have hd : (s.withEngine r f h).decimalMode = s.decimalMode := rfl
    cases h1 : s.decimalMode with
    | false => exact ⟨_, if_neg (by simp [h1]), if_neg (by simp [h1, hd])⟩
    | true => exact ⟨_, if_pos h1, if_pos (hd ▸ h1)⟩
  | shift g target => cases target <;> exact ⟨_, rfl, rfl⟩
  | compare reg src => exact ⟨_, rfl, by rw [run, value_withEngine]; rfl⟩
  | call addr =>
    exact ⟨_, rfl, by
      simp only [run, callSubroutine, consume_withEngine, pc_withEngine, push_withEngine, setPc_withEngine]⟩
  | ret =>
    exact ⟨_, rfl, by
      simp only [run, returnFromSubroutine, popState_withEngine, popValue_withEngine, setPc_withEngine]⟩
  | branch g value rel =>
    rw [run, run, flag_withEngine]
    cases bif value then s.flag g else !s.flag g <;> exact ⟨_, rfl, rfl⟩
  | push reg => exact ⟨_, rfl, by rw [run, value_withEngine, push_withEngine]⟩
  | pull => exact ⟨_, rfl, by rw [run, execPla, popState_withEngine, popValue_withEngine]; rfl⟩
  | txs | modify | logic | bit | jump | jumpIndirect | flag | nop | brk => exact ⟨_, rfl, rfl⟩

end

end Sys2Proof.Machine

open Sys2Proof Sys2Proof.Machine

/-- Settles O46: the length of the encoding is the opcode byte and the operand bytes that the template consumes. -/
theorem nonTransfersAdvanceByTheirLength : Obligations.NonTransfersAdvanceByTheirLength := by
  intro i s t hi h
  obtain ⟨hpc, -⟩ := exec_spec h
  exact hpc hi

/-- Settles O47: D and V are written only where a template lists them, and P is its flags and its reserved bits. -/
theorem onlyNamedInstructionsWriteDVAndReserved : Obligations.OnlyNamedInstructionsWriteDVAndReserved := by
  intro i s t h
  obtain ⟨-, hflags⟩ := exec_spec h
  have hr : t.p &&& reservedMask = s.p &&& reservedMask := (exec_keepsEngine h).reserved
  refine ⟨fun hd => ?_, fun hv => ?_, hr, fun hn => ?_⟩
  · exact cld_or_sed_of_flags (not_imp_comm.1 (hflags .d) hd)
  · rw [← contains_v_flags, List.contains_iff_mem]
    exact not_imp_comm.1 (hflags .v) hv
  · rw [← isEmpty_flags, List.isEmpty_iff] at hn
    exact p_eq_of_flag_eq (fun f => hflags f (hn ▸ List.not_mem_nil)) hr

/-- Settles O48: every template commutes with replacing RUN, FAULT and HOLD. -/
theorem instructionsIgnoreEngineState : Obligations.InstructionsIgnoreEngineState := by
  intro i s r f h
  rw [exec_eq_run, exec_eq_run]
  exact (Template.of i).run_withEngine s r f h

end

/-! PROOFS. The family of spec/20_memory.md: what a write of memory changes, the host's access to it, and the random-byte
cell. -/

/-! ## Writes of memory, and the host's access while idle -/

section
namespace Sys2Proof.Machine

/-- A memory write changes its one cell and no other part of the state (R32). -/
theorem write_keepsAllBut (s : State) (addr : Word) (v : Byte) : KeepsAllBut [.cell addr] s (s.write addr v) := by
  intro q hq
  cases q with
  | cell b =>
    have hb : b ≠ addr := by simpa using hq
    exact (s.read_write addr b v).trans (if_neg hb)
  | _ => rfl

theorem idle_iff (s : State) : s.idle = true ↔ s.run = .stopped ∨ s.hold = .held := by simp [State.idle]

theorem idle_eq_false {s : State} (hr : s.run = .running) (hh : s.hold = .free) : s.idle = false := by
  simp [State.idle, hr, hh]

/-- The host addresses that name a cell are 0 to 65535 (R212). -/
theorem hostAddr_of_range {addr : Int} (h : 0 ≤ addr ∧ addr ≤ 65535) : hostAddr addr = some (BitVec.ofInt 16 addr) :=
  if_pos ⟨h.1, Int.lt_add_one_of_le h.2⟩

theorem hostAddr_of_not_range {addr : Int} (h : ¬(0 ≤ addr ∧ addr ≤ 65535)) : hostAddr addr = none :=
  if_neg fun ⟨h0, hlt⟩ => h ⟨h0, Int.le_of_lt_add_one hlt⟩

/-- A host's value is reduced modulo 256 (R32). -/
theorem toNat_ofInt_byte (value : Int) : ((BitVec.ofInt 8 value).toNat : Int) = value % 256 := by
  rw [BitVec.toNat_ofInt]
  exact Int.toNat_of_nonneg (Int.emod_nonneg value (by decide))

/-- The `flags()` string has P's bit 7 - k at place k (R227). -/
theorem flagChars_getElem? (p : Byte) {k : Nat} (hk : k < 8) :
    (flagChars p)[k]? = some (bitChar (p.getLsbD (7 - k))) := by
  have hbits : [7, 6, 5, 4, 3, 2, 1, 0][k]? = some (7 - k) := by revert k; decide
  rw [flagChars, List.getElem?_map, hbits, Option.map_some]

section
variable {s : State}

/-! While idle, a host access does what its address allows (R45, R212, R230). -/

theorem moveGet_of_idle (hi : s.idle = true) {addr : Int} {w : Word} (ha : hostAddr addr = some w) :
    hostMove (.get addr) s = .next (s, .byte (s.read w)) := by simp [hostMove, moveGet, hi, ha]

theorem moveSet_of_idle (hi : s.idle = true) {addr : Int} {w : Word} (ha : hostAddr addr = some w) (value : Int) :
    hostMove (.set addr value) s = .next (s.write w (BitVec.ofInt 8 value), .done) := by
  simp [hostMove, moveSet, hi, ha]

theorem moveGet_outOfBounds (hi : s.idle = true) {addr : Int} (ha : hostAddr addr = none) :
    hostMove (.get addr) s = .next (s, .outOfBounds addr) := by simp [hostMove, moveGet, hi, ha]

theorem moveSet_outOfBounds (hi : s.idle = true) {addr : Int} (ha : hostAddr addr = none) (value : Int) :
    hostMove (.set addr value) s = .next (s, .outOfBounds addr) := by simp [hostMove, moveSet, hi, ha]

theorem moveFlags_of_idle (hi : s.idle = true) : hostMove .flags s = .next (s, .flagString (flagChars s.p)) := by
  simp [hostMove, moveFlags, hi]

/-- While the engine is not idle, every host access is refused (R45, R230). -/
theorem access_refused (hi : s.idle = false) (addr value : Int) :
    hostMove (.get addr) s = .refused .accessWhileRunning ∧
      hostMove (.set addr value) s = .refused .accessWhileRunning ∧
      hostMove .flags s = .refused .accessWhileRunning := by
  simp [hostMove, moveGet, moveSet, moveFlags, hi]

end

end Sys2Proof.Machine

open Sys2Proof Sys2Proof.Machine

/-- Settles O18, by the laws of memory for reads after a write and for the canonical form. -/
theorem memoryReadsWhatWasWritten : Obligations.MemoryReadsWhatWasWritten := by
  intro m addr v
  refine ⟨?_, fun b hb => ?_, fun hm => Memory.write_wf hm addr v⟩
  · exact (m.read_write addr addr v).trans (if_pos rfl)
  · exact (m.read_write addr b v).trans (if_neg hb)

/-- Settles O55: an access looks at idle first, then at the range of its address. -/
theorem hostAccessOnlyWhileIdle : Obligations.HostAccessOnlyWhileIdle := by
  intro s addr value
  refine ⟨fun hidle => ?_, fun hr hh => access_refused (idle_eq_false hr hh) addr value, rfl⟩
  have hi := (idle_iff s).2 hidle
  refine ⟨fun hin => ?_, fun hout => ?_, flagChars s.p, moveFlags_of_idle hi, rfl, fun k hk => flagChars_getElem? s.p hk⟩
  · have ha := hostAddr_of_range hin
    refine ⟨moveGet_of_idle hi ha, _, moveSet_of_idle hi ha value, ?_, write_keepsAllBut s _ _⟩
    rw [State.read_write, if_pos rfl, toNat_ofInt_byte]
  · have ha := hostAddr_of_not_range hout
    exact ⟨moveGet_outOfBounds hi ha, moveSet_outOfBounds hi ha value⟩

end

/-! ## The random-byte cell -/

section
namespace Sys2Proof.Machine

/-- The byte drawn for a step replaces whatever the random-byte cell held (R39). -/
theorem writeRandom_write_rndAddr (s : State) (v r : Byte) :
    (s.write Config.rndAddr v).writeRandom r = s.writeRandom r :=
  have hmem : (s.mem.write Config.rndAddr v).write Config.rndAddr r = s.mem.write Config.rndAddr r := by
    simp [Memory.write]
  congrArg s.setMem hmem

end Sys2Proof.Machine

open Sys2Proof Sys2Proof.Machine

/-- Settles O12: a step starts from the state in which the drawn byte has been written. -/
theorem randomCellHidesEarlierStores : Obligations.RandomCellHidesEarlierStores :=
  fun r v s => congrArg State.runInstruction (writeRandom_write_rndAddr s v r)

end

/-! PROOFS. The family of spec/30_encoding.md: the round trip between the map by opcode byte and the table by mnemonic,
the bytes that are one instruction, the absent bytes, and what a step and a binding do with a byte that has no entry. -/

/-! ## The round trip -/

section
namespace Sys2Proof

/-- A word stands for an instruction in the map by opcode byte: the opcode byte's entry builds the instruction from the
operand bytes that follow it (R50, R53). -/
inductive StandsFor : List Byte → Instr → Prop where
  | op0 {op : Byte} {i : Instr} : lookupOpcode op = some (.op0 i) → StandsFor [op] i
  | op1 {op : Byte} {mk : Byte → Instr} (b : Byte) : lookupOpcode op = some (.op1 mk) → StandsFor [op, b] (mk b)
  | op2 {op : Byte} {mk : Word → Instr} (w : Word) :
      lookupOpcode op = some (.op2 mk) → StandsFor [op, lowByte w, highByte w] (mk w)

/-- The decoder reads exactly the words of the map, and leaves what follows the word. -/
theorem decode_eq_ok_iff {bytes rest : List Byte} {i : Instr} :
    decode bytes = .ok (i, rest) ↔ ∃ word, StandsFor word i ∧ bytes = word ++ rest := by
  constructor
  · intro h
    match bytes with
    | [] => simp [decode] at h
    | op :: operands =>
      match hl : lookupOpcode op, operands with
      | none, _ => simp [decode, hl] at h
      | some (.op0 j), _ =>
        obtain ⟨rfl, rfl⟩ : j = i ∧ _ = rest := by simpa [decode, hl] using h
        exact ⟨_, .op0 hl, rfl⟩
      | some (.op1 mk), [] | some (.op2 mk), [] | some (.op2 mk), [_] => simp [decode, hl] at h
      | some (.op1 mk), b :: _ =>
        obtain ⟨rfl, rfl⟩ : mk b = i ∧ _ = rest := by simpa [decode, hl] using h
        exact ⟨_, .op1 b hl, rfl⟩
      | some (.op2 mk), lo :: hi :: _ =>
        obtain ⟨rfl, rfl⟩ : mk (wordOf lo hi) = i ∧ _ = rest := by simpa [decode, hl] using h
        exact ⟨_, .op2 (wordOf lo hi) hl, by simp⟩
  · rintro ⟨word, hw, rfl⟩
    cases hw with
    | op0 hl => simp [decode, hl]
    | op1 b hl => simp [decode, hl]
    | op2 w hl => simp [decode, hl]

/-- Every encoding is a word of the map: its length tells which kind of entry to look for, and the map has it. -/
theorem standsFor_encode (i : Instr) : StandsFor (encode i) i := by
  cases i <;> constructor <;> rfl

/-- The instruction an entry builds where its operand is a byte, or where it is 16 bits. -/
def Entry.build (b : Byte) (w : Word) : Entry → Instr
  | .op0 i => i
  | .op1 mk => mk b
  | .op2 mk => mk w

/-- The operand bytes from which an entry builds it. -/
def Entry.operands (b : Byte) (w : Word) : Entry → List Byte
  | .op0 _ => []
  | .op1 _ => [b]
  | .op2 _ => [lowByte w, highByte w]

/-- Row by row, the encoder gives what the map's entry builds the row's own opcode byte and operand bytes. -/
theorem encode_build {row : Byte × Entry} (h : row ∈ opcodeTable) (b : Byte) (w : Word) :
    encode (row.2.build b w) = row.1 :: row.2.operands b w := by
  fin_cases h <;> rfl

/-- An entry that the lookup finds is a row of the map. -/
theorem mem_of_lookupOpcode {op : Byte} {e : Entry} (h : lookupOpcode op = some e) : (op, e) ∈ opcodeTable := by
  obtain ⟨row, hfind, rfl⟩ := Option.map_eq_some_iff.1 h
  have hop : row.1 = op := by simpa using List.find?_some hfind
  exact hop ▸ List.mem_of_find?_eq_some hfind

/-- An instruction has no word in the map but its encoding. -/
theorem StandsFor.eq_encode {word : List Byte} {i : Instr} (h : StandsFor word i) : word = encode i := by
  cases h with
  | op0 hl => exact (encode_build (mem_of_lookupOpcode hl) 0 0).symm
  | op1 b hl => exact (encode_build (mem_of_lookupOpcode hl) b 0).symm
  | op2 w hl => exact (encode_build (mem_of_lookupOpcode hl) 0 w).symm

theorem decode_encode (i : Instr) (rest : List Byte) : decode (encode i ++ rest) = .ok (i, rest) :=
  decode_eq_ok_iff.2 ⟨_, standsFor_encode i, rfl⟩

theorem eq_encode_of_decode {bytes rest : List Byte} {i : Instr} (h : decode bytes = .ok (i, rest)) :
    bytes = encode i ++ rest := by
  obtain ⟨word, hw, rfl⟩ := decode_eq_ok_iff.1 h
  rw [hw.eq_encode]

end Sys2Proof

open Sys2Proof

/-- Settles O1: the encoding is a word of the map, and the decoder reads the words of the map. -/
theorem decodeInvertsEncode : Obligations.DecodeInvertsEncode :=
  decode_encode

/-- Settles O2: what the decoder has read is a word of the map, and the encoding is the only one. -/
theorem encodeInvertsDecode : Obligations.EncodeInvertsDecode :=
  fun _ _ _ => eq_encode_of_decode

/-- Settles O5, by running the decoder on each word. -/
theorem sampleWordsDecode : Obligations.SampleWordsDecode := by
  unfold Obligations.SampleWordsDecode
  and_intros <;> rfl

end

/-! ## Lengths by format, and the absent bytes -/

section
namespace Sys2Proof

/-- The bytes of an instruction that an entry builds, opcode byte included. -/
def Entry.length : Entry → Nat
  | .op0 _ => 1
  | .op1 _ => 2
  | .op2 _ => 3

/-- The opcode byte of a row of the map stands in the column of a format with the row's length (R51, R52). -/
theorem opcodeFormat_of_mem {row : Byte × Entry} (h : row ∈ opcodeTable) :
    (opcodeFormat row.1).map Format.length = some row.2.length := by
  fin_cases h <;> rfl

/-- The columns by format hold no byte that the map lacks. -/
theorem isSome_lookupOpcode_of_mem_opcodes {op : Byte} {f : Format} (h : op ∈ f.opcodes) :
    (lookupOpcode op).isSome = true := by
  cases f <;> fin_cases h <;> rfl

/-- The columns by format and the map by opcode byte give every byte the same length, or none. -/
theorem map_length_opcodeFormat (op : Byte) :
    (opcodeFormat op).map Format.length = (lookupOpcode op).map Entry.length := by
  cases hl : lookupOpcode op with
  | some e => exact opcodeFormat_of_mem (mem_of_lookupOpcode hl)
  | none =>
    have hno (f : Format) : op ∉ f.opcodes := fun hf => by simpa [hl] using isSome_lookupOpcode_of_mem_opcodes hf
    have hnone : opcodeFormat op = none := List.find?_eq_none.2 (by simp [hno])
    rw [hnone]; rfl

theorem wellFormed_cons (op : Byte) (operands : List Byte) :
    wellFormed (op :: operands) = true ↔ (opcodeFormat op).map Format.length = some (operands.length + 1) := by
  cases hf : opcodeFormat op with
  | none => simp [wellFormed, illFormed, hf]
  | some f => by_cases hn : operands.length + 1 = f.length <;> simp [wellFormed, illFormed, hf, hn, eq_comm]

/-- The decoder leaves nothing exactly where the bytes are as many as the entry takes. -/
theorem exists_decode_nil_iff (op : Byte) (operands : List Byte) :
    (∃ i, decode (op :: operands) = .ok (i, [])) ↔ (lookupOpcode op).map Entry.length = some (operands.length + 1) := by
  cases hl : lookupOpcode op with
  | none => simp [decode, hl]
  | some e =>
    match e, operands with
    | .op0 _, operands => cases operands <;> simp [decode, hl, Entry.length]
    | .op1 _, [] | .op1 _, [_] | .op1 _, _ :: _ :: _ => simp [decode, hl, Entry.length]
    | .op2 _, [] | .op2 _, [_] | .op2 _, [_, _] | .op2 _, _ :: _ :: _ :: _ => simp [decode, hl, Entry.length]

theorem decode_eq_unknownOpcode_iff {op : Byte} {rest : List Byte} :
    decode (op :: rest) = .error (.unknownOpcode op) ↔ lookupOpcode op = none := by
  cases hl : lookupOpcode op with
  | none => simp [decode, hl]
  | some e =>
    match e, rest with
    | .op0 _, _ | .op1 _, [] | .op1 _, _ :: _ => simp [decode, hl]
    | .op2 _, [] | .op2 _, [_] | .op2 _, _ :: _ :: _ => simp [decode, hl]

/-- R55's list and the map divide the 256 bytes between them. -/
theorem absentByte_iff_not_mem (op : Byte) :
    Forms.absentByte op = true ↔ op.toNat ∉ opcodeTable.map fun row => row.1.toNat := by
  revert op; decide

theorem lookupOpcode_eq_none_iff {op : Byte} : lookupOpcode op = none ↔ Forms.absentByte op = true := by
  rw [absentByte_iff_not_mem]
  simp only [lookupOpcode, Option.map_eq_none_iff, List.find?_eq_none, beq_iff_eq, List.mem_map, BitVec.toNat_inj,
    not_exists, not_and]

theorem isSome_lookupOpcode_iff {op : Byte} : (lookupOpcode op).isSome = true ↔ Forms.absentByte op = false := by
  rw [← Bool.not_eq_true, ← lookupOpcode_eq_none_iff, Option.isSome_iff_ne_none]

end Sys2Proof

open Sys2Proof

/-- Settles O3: an opcode byte has the same length in the columns by format as in the map that the decoder reads. -/
theorem wellFormedBytesAreWhatDecodes : Obligations.WellFormedBytesAreWhatDecodes := by
  intro bytes
  cases bytes with
  | nil => simp [wellFormed, illFormed, decode]
  | cons op operands => rw [wellFormed_cons, map_length_opcodeFormat, exists_decode_nil_iff]

/-- Settles O4: the decoder's UnknownOpcode is a byte without an entry, and these are R55's. -/
theorem absentBytesAreTheListed : Obligations.AbsentBytesAreTheListed :=
  ⟨fun _ _ => decode_eq_unknownOpcode_iff.trans lookupOpcode_eq_none_iff, by decide⟩

end

/-! ## A step on a byte with an entry, a step on an absent byte, and binding one -/

section
namespace Sys2Proof.Machine

/-- A byte without an entry takes the step to the absent opcode's arm, whatever bytes follow it (R55, R70). -/
theorem runInstruction_of_absent {s : State} (h : Forms.absentByte (s.read s.pc) = true) :
    s.runInstruction = s.absentOpcode := by
  have hd := decode_eq_unknownOpcode_iff (rest := [s.read (s.pc + 1#16), s.read (s.pc + 1#16 + 1#16)]).2
    (lookupOpcode_eq_none_iff.2 h)
  rw [State.runInstruction, fetchBytes_eq, hd]

section
variable {r : Byte} {s : State}

/-- The fault UnknownOpcode, with everything it leaves (R211). -/
theorem engineStep_of_unbound (h : Forms.absentByte ((s.writeRandom r).read s.pc) = true)
    (hx : (s.writeRandom r).read s.pc ∉ s.extTable) :
    engineStep r s =
      .next (((s.writeRandom r).consume 1#16).takeFault (.unknownOpcode s.pc ((s.writeRandom r).read s.pc))) :=
  (runInstruction_of_absent h).trans (if_neg (mt List.contains_iff_mem.1 hx))

theorem engineStep_of_bound (h : Forms.absentByte ((s.writeRandom r).read s.pc) = true)
    (hx : (s.writeRandom r).read s.pc ∈ s.extTable) :
    engineStep r s = .refused (.extensionHandler ((s.writeRandom r).read s.pc)) :=
  (runInstruction_of_absent h).trans (if_pos (List.contains_iff_mem.2 hx))

/-- A byte with an entry runs an instruction to its end; the instruction is BRK exactly on 0x00 (R54, R70). -/
theorem engineStep_runs (h : Forms.absentByte ((s.writeRandom r).read s.pc) = false) :
    ∃ i u, (i = .brk ↔ (s.writeRandom r).read s.pc = 0x00#8) ∧
      exec i ((s.writeRandom r).consume 1#16) = .next u ∧ engineStep r s = .next u.haltCheck := by
  obtain ⟨i, rest, hd⟩ : ∃ i rest, decode (s.writeRandom r).fetchBytes = .ok (i, rest) := by
    rcases decode_three ((s.writeRandom r).read s.pc) _ _ with ⟨i, rest, hd, -⟩ | ⟨-, hn⟩
    · exact ⟨i, rest, hd⟩
    · rw [lookupOpcode_eq_none_iff, h] at hn; cases hn
  obtain ⟨u, hu, -⟩ := (Template.of i).run_spec ((s.writeRandom r).consume 1#16)
  rw [← exec_eq_run] at hu
  refine ⟨i, u, ?_, hu, ?_⟩
  · have hbytes := eq_encode_of_decode hd
    constructor
    · rintro rfl
      exact (List.cons.inj hbytes).1
    · intro hb
      rw [fetchBytes_eq, writeRandom_pc, hb] at hd
      cases hd
      rfl
  · rw [engineStep, State.runInstruction, hd]
    exact congrArg finishStep hu

/-- Only BRK asks for a stop (R199). -/
theorem exec_stopRequested {i : Instr} {s t : State} (h : exec i s = .next t) :
    t.stopRequested = true ↔ i = .brk ∨ s.stopRequested = true := by
  by_cases hi : i = .brk
  · subst hi
    injection h with h
    subst h
    simp [State.requestStop]
  · simp [hi, (exec_quiet hi h).2]

/-- RUN after the halt condition (R71). -/
theorem haltCheck_run_eq_stopped {s : State} (h : s.pc = 0x0000#16 ∨ s.stopRequested = true) :
    s.haltCheck.run = .stopped := by
  rcases haltCheck_cases s with ⟨e, -⟩ | ⟨-, hz, hr⟩
  · rw [e]; rfl
  · simp [hz, hr] at h

theorem haltCheck_run_eq_run {s : State} (hz : s.pc ≠ 0x0000#16) (hr : ¬s.stopRequested = true) :
    s.haltCheck.run = s.run := by
  rcases haltCheck_cases s with ⟨-, h⟩ | ⟨e, -⟩
  · exact absurd h (by simp [hz, hr])
  · rw [e]

/-- What a step on a byte with an entry does to the engine's part of the state (R70, R71, R199). -/
theorem engineStep_of_entry (h : Forms.absentByte ((s.writeRandom r).read s.pc) = false) :
    ∃ t, engineStep r s = .next t ∧ t.draws = s.draws ∧ t.hold = s.hold ∧ t.faultLatch = s.faultLatch ∧
      (t.pc = 0x0000#16 ∨ (s.writeRandom r).read s.pc = 0x00#8 ∨ s.stopRequested = true → t.run = .stopped) ∧
      (t.pc ≠ 0x0000#16 → (s.writeRandom r).read s.pc ≠ 0x00#8 → s.stopRequested = false → t.run = s.run) := by
  obtain ⟨i, u, hbrk, hu, ht⟩ := engineStep_runs h
  have k := exec_keepsEngine hu
  have hreq : u.stopRequested = true ↔ (s.writeRandom r).read s.pc = 0x00#8 ∨ s.stopRequested = true :=
    (exec_stopRequested hu).trans (or_congr_left hbrk)
  refine ⟨_, ht, by simp [k.draws], by simp [k.hold], by simp [k.fault], ?_, ?_⟩
  · rw [haltCheck_pc, ← hreq]
    exact haltCheck_run_eq_stopped
  · rw [haltCheck_pc]
    intro hz hb hr
    have hno : ¬u.stopRequested = true := fun hu => (hreq.1 hu).elim hb (by simp [hr])
    exact (haltCheck_run_eq_run hz hno).trans k.run

/-- STEP is the drawn step while FAULT = none and HOLD = Free (R100). -/
theorem hostMove_step_of_free (hf : s.faultLatch = none) (hh : s.hold = .free) :
    hostMove .step s = .ofResult (drawnStep s) := by
  simp [hostMove, moveStep, hf, hh]

end

end Sys2Proof.Machine

open Sys2Proof Sys2Proof.Machine

/-- Settles O8: the absent opcode's arm looks at EXT_TABLE alone. -/
theorem absentOpcodeLatchesAndStopsOrIsRefused : Obligations.AbsentOpcodeLatchesAndStopsOrIsRefused := by
  intro r s b hb
  refine ⟨fun hx => ⟨_, engineStep_of_unbound hb hx, rfl, rfl, rfl, by simp [Config.rndAddr], rfl, ?_⟩,
    fun hx => engineStep_of_bound hb hx⟩
  intro q hq
  cases q <;> simp_all [Part.Same, Config.rndAddr]

/-- Settles O52: a bound byte refuses, an unbound one faults, and a byte with an entry runs to the halt condition. -/
theorem stepCommandLeavesRunUnlessHalted : Obligations.StepCommandLeavesRunUnlessHalted := by
  intro s drawn b
  refine ⟨fun hf hh => ?_, fun hf => ?_, fun hf hh => by simp [hostMove, moveStep, hf, hh]⟩
  · have hstep : hostMove .step s = .ofResult drawn := hostMove_step_of_free hf hh
    refine ⟨hstep, fun hb hx => ?_, fun hunbound => ?_⟩
    · have hrefused : drawn = .refused (.extensionHandler b) := engineStep_of_bound hb hx
      exact hstep.trans (congrArg MoveResult.ofResult hrefused)
    cases hb : Forms.absentByte b with
    | true =>
      have ht : drawn = .next _ := engineStep_of_unbound hb (hunbound hb)
      have hmove := hstep.trans (congrArg MoveResult.ofResult ht)
      exact ⟨_, ht, hmove, rfl, hh, by simp, fun _ => rfl, by simp⟩
    | false =>
      obtain ⟨t, ht, hdraws, hhold, hfault, hstop, hrun⟩ :=
        engineStep_of_entry (r := Config.rnd s.draws) (s := s.setDraws (s.draws + 1)) hb
      have hnone : t.faultLatch = none := hfault.trans hf
      have hmove : hostMove .step s = .next (t, .done) := hstep.trans (congrArg MoveResult.ofResult ht)
      refine ⟨t, ht, hmove, hdraws, hhold.trans hh, by simp [hnone], ?_, ?_⟩
      · rintro (hz | hn | hb0 | hr)
        · exact hstop (.inl hz)
        · exact absurd hnone hn
        · exact hstop (.inr (.inl hb0))
        · exact hstop (.inr (.inr hr))
      · exact fun hz _ hb0 hr => hrun hz hb0 hr
  · simp [hostMove, moveStep, Option.isSome_iff_ne_none.2 hf]

/-- Settles O56: binding looks at the draw counter, then at the map. -/
theorem bindingIsForAbsentBytesBeforeTheFirstStep : Obligations.BindingIsForAbsentBytesBeforeTheFirstStep := by
  intro s op
  refine ⟨fun hd hop => ?_, fun hd hop => ?_, fun hd => if_pos hd⟩
  · have hl := lookupOpcode_eq_none_iff.2 hop
    refine ⟨s.setExtTable (op :: s.extTable.filter (fun b => b ≠ op)), by simp [hostMove, moveBind, hd, hl], ?_, ?_⟩
    · intro b
      by_cases hb : b = op <;> simp [hb]
    · intro q hq
      cases q with
      | extTable => exact absurd (List.mem_singleton_self _) hq
      | _ => rfl
  · simp [hostMove, moveBind, hd, isSome_lookupOpcode_iff.2 hop]

end

/-! PROOFS. The family of spec/40_engine_and_primitives.md: the execution step and its halt condition, run control, the
fetch, stack and flag primitives, the addressing modes, and compare. -/

/-! ## Frames

What each primitive leaves unchanged, composed from what each write leaves unchanged. -/

section
namespace Sys2Proof.Machine

section
variable {s t u : State}

theorem Part.Same.trans {q : Part} (h : q.Same s t) (k : q.Same t u) : q.Same s u := by
  cases q <;> exact Eq.trans k h

/-- Frames compose: two changes in turn leave what both leave. -/
theorem KeepsAllBut.trans {l l' : List Part} (h : KeepsAllBut l s t) (k : KeepsAllBut l' t u) :
    KeepsAllBut (l ++ l') s u := fun q hq =>
  have hnot := not_or.1 (mt List.mem_append.2 hq)
  (h q hnot.1).trans (k q hnot.2)

theorem KeepsAllBut.mono {l l' : List Part} (h : KeepsAllBut l s t) (hl : l ⊆ l') : KeepsAllBut l' s t :=
  fun q hq => h q fun hql => hq (hl hql)

end

section
variable (s : State)

/-! A write of one register changes that part alone. -/

theorem setPc_keepsAllBut (v : Word) : KeepsAllBut [.pc] s (s.setPc v) := by
  intro q hq
  cases q with
  | pc => exact absurd (.head _) hq
  | _ => rfl

theorem setSp_keepsAllBut (v : Byte) : KeepsAllBut [.sp] s (s.setSp v) := by
  intro q hq
  cases q with
  | sp => exact absurd (.head _) hq
  | _ => rfl

theorem setStackWraps_keepsAllBut (n : Nat) : KeepsAllBut [.stackWraps] s (s.setStackWraps n) := by
  intro q hq
  cases q with
  | stackWraps => exact absurd (.head _) hq
  | _ => rfl

theorem setRun_keepsAllBut (v : RunState) : KeepsAllBut [.run] s (s.setRun v) := by
  intro q hq
  cases q with
  | run => exact absurd (.head _) hq
  | _ => rfl

theorem setStopRequested_keepsAllBut (v : Bool) : KeepsAllBut [.stopRequest] s (s.setStopRequested v) := by
  intro q hq
  cases q with
  | stopRequest => exact absurd (.head _) hq
  | _ => rfl

/-- A flag write changes that flag, and leaves the other flags and the reserved bits of P (R16). -/
theorem setFlag_keepsAllBut (f : Flag) (v : Bool) : KeepsAllBut [.flag f] s (s.setFlag f v) := by
  intro q hq
  cases q with
  | flag g =>
    have hg : g ≠ f := by simpa using hq
    exact (flag_setFlag s f g v).trans (if_neg hg)
  | reserved => exact setFlag_reserved s f v
  | _ => rfl

theorem consume_keepsAllBut (n : Word) : KeepsAllBut [.pc] s (s.consume n) := setPc_keepsAllBut s _

theorem setSZ_keepsAllBut (v : Byte) : KeepsAllBut [.flag .z, .flag .n] s (s.setSZ v) :=
  (setFlag_keepsAllBut s .z _).trans (setFlag_keepsAllBut _ .n _)

theorem stopEngine_keepsAllBut : KeepsAllBut [.run, .stopRequest] s s.stopEngine :=
  (setRun_keepsAllBut s .stopped).trans (setStopRequested_keepsAllBut _ false)

theorem push_keepsAllBut (v : Byte) : KeepsAllBut [.cell (stackAddr s.sp), .sp, .stackWraps] s (s.push v) := by
  rw [push_eq]
  exact (((write_keepsAllBut s _ v).trans (setStackWraps_keepsAllBut _ _)).trans (setSp_keepsAllBut _ _)).mono
    (by simp)

theorem popState_keepsAllBut : KeepsAllBut [.sp, .stackWraps] s s.popState := by
  rw [popState_eq]
  exact ((setStackWraps_keepsAllBut s _).trans (setSp_keepsAllBut _ _)).mono (by simp)

end

end Sys2Proof.Machine
end

/-! ## Steps and run control -/

section
namespace Sys2Proof.Machine

/-- The three bytes a step fetches, each at its distance from PC. -/
theorem fetchBytes_eq_offsets (s : State) :
    s.fetchBytes = [s.read s.pc, s.read (s.pc + 1#16), s.read (s.pc + 2#16)] := by
  rw [fetchBytes_eq, BitVec.add_assoc]; rfl

section
variable {s : State}

/-- The pacing loop takes the drawn step while RUN = Running, HOLD = Free and FAULT = none (R101). -/
theorem step_of_enabled (hr : s.run = .running) (hh : s.hold = .free) (hf : s.faultLatch = none) :
    step s = drawnStep s := by
  simp only [step, pacedStep, hf, hr, hh]

/-- Without a fault, a Stopped or Held engine changes nothing (R101). -/
theorem step_of_not_enabled (hf : s.faultLatch = none) (hn : ¬(s.run = .running ∧ s.hold = .free)) :
    step s = .next s := by
  cases hr : s.run <;> cases hh : s.hold <;> simp only [step, pacedStep, hf, hr, hh]
  exact absurd ⟨hr, hh⟩ hn

theorem stepEnabled_iff : s.stepEnabled = true ↔ s.run = .running ∧ s.hold = .free ∧ s.faultLatch = none := by
  simp [State.stepEnabled, and_assoc]

/-- Bytes that decode run their instruction in the state with PC past the opcode byte (R70). -/
theorem runInstruction_of_decode {i : Instr} {rest : List Byte} (hd : decode s.fetchBytes = .ok (i, rest)) :
    s.runInstruction = finishStep (exec i (s.consume 1#16)) := by
  rw [State.runInstruction, hd]; rfl

end

end Sys2Proof.Machine

open Sys2Proof Sys2Proof.Machine

/-- Settles O6: an enabled step is the drawn step, which runs what its three bytes decode to. -/
theorem stepRunsDecodedInstruction : Obligations.StepRunsDecodedInstruction := by
  intro s i rest hr hh hf s1 hd
  have hbytes : decode s1.fetchBytes = .ok (i, rest) := by rw [fetchBytes_eq_offsets]; exact hd
  calc step s = s1.runInstruction := step_of_enabled hr hh hf
    _ = finishStep (exec i (s1.setPc (s.pc + 1))) := runInstruction_of_decode hbytes

/-- Settles O7: the pacing loop looks at RUN, HOLD and FAULT, the STEP command at HOLD and FAULT. -/
theorem stepTakenExactlyWhenEnabled : Obligations.StepTakenExactlyWhenEnabled :=
  fun _ hf => ⟨fun hr hh => step_of_enabled hr hh hf, step_of_not_enabled hf, hostMove_step_of_free hf⟩

/-- Settles O10: an absent byte stops the engine with the fault, and a byte with an entry ends in the halt condition. -/
theorem pcZeroStopsTheEngine : Obligations.PcZeroStopsTheEngine := by
  intro r s t ht
  cases hb : Forms.absentByte ((s.writeRandom r).read s.pc) with
  | true =>
    by_cases hx : (s.writeRandom r).read s.pc ∈ s.extTable
    · rw [engineStep_of_bound hb hx] at ht
      cases ht
    · rw [engineStep_of_unbound hb hx] at ht
      injection ht with ht
      subst ht
      exact ⟨fun _ => rfl, fun _ hsame hnone => by simp [hnone] at hsame⟩
  | false =>
    obtain ⟨u, hu, -, -, -, hstop, hrun⟩ := engineStep_of_entry hb
    rw [hu] at ht
    injection ht with ht
    subst ht
    exact ⟨fun hz => hstop (.inl hz), fun hz _ _ hr hb0 => hrun hz hb0 hr⟩

/-- Settles O51: START and STOP are writes of RUN and the request, and RESET looks at RUN. -/
theorem runControlMoves : Obligations.RunControlMoves := by
  intro s
  refine ⟨fun hf => ⟨s.setRun .running, ?_, rfl, setRun_keepsAllBut s _⟩,
    ⟨s.stopEngine, rfl, rfl, rfl, stopEngine_keepsAllBut s⟩, fun hr => ?_, fun hr => if_pos hr⟩
  · simp [hostMove, moveStart, hf]
  · simp [hostMove, moveReset, hr]

end

/-! ## A STOP in flight

A request pending from the start of a step changes nothing until point 5: every template commutes with it. -/

section
namespace Sys2Proof.Machine

section
variable (s : State)

theorem push_requestStop (v : Byte) : s.requestStop.push v = (s.push v).requestStop := by
  rw [push_eq, push_eq]; rfl

theorem popState_requestStop : s.requestStop.popState = s.popState.requestStop := by
  rw [popState_eq, popState_eq]; rfl

theorem popValue_requestStop : s.requestStop.popValue = s.popValue := by
  rw [popValue_eq, popValue_eq]; rfl

theorem Register.value_requestStop (r : Register) : r.value s.requestStop = r.value s := by
  cases r <;> rfl

theorem put_requestStop (v : Byte) (d : Dest) : s.requestStop.put v d = (s.put v d).requestStop := by
  cases d <;> rfl

theorem Template.run_requestStop (tm : Template) :
    ∃ t, tm.run s = .next t ∧ tm.run s.requestStop = .next t.requestStop := by
  cases tm with
  | load d src => cases d <;> cases src <;> exact ⟨_, rfl, rfl⟩
  | store r m => exact ⟨_, rfl, by rw [run, Register.value_requestStop]; rfl⟩
  | transfer d g r => exact ⟨_, rfl, by rw [run, Register.value_requestStop, put_requestStop]; rfl⟩
  | arith op binary src =>
    have hd : s.requestStop.decimalMode = s.decimalMode := rfl
    cases h : s.decimalMode with
    | false => exact ⟨_, if_neg (by simp [h]), if_neg (by simp [h, hd])⟩
    | true => exact ⟨_, if_pos h, if_pos (hd.trans h)⟩
  | shift g target => cases target <;> exact ⟨_, rfl, rfl⟩
  | compare r src => exact ⟨_, rfl, by rw [run, Register.value_requestStop]; rfl⟩
  | call addr =>
    have hc : s.requestStop.consume 2#16 = (s.consume 2#16).requestStop := rfl
    exact ⟨_, rfl, by rw [run, callSubroutine, hc, push_requestStop, push_requestStop]; rfl⟩
  | ret =>
    exact ⟨_, rfl, by
      rw [run, returnFromSubroutine, popState_requestStop, popState_requestStop, popValue_requestStop,
        popValue_requestStop]; rfl⟩
  | branch g value rel =>
    have hg : s.requestStop.flag g = s.flag g := rfl
    rw [run, run, hg]
    cases bif value then s.flag g else !s.flag g <;> exact ⟨_, rfl, rfl⟩
  | push r => exact ⟨_, rfl, by rw [run, Register.value_requestStop, push_requestStop]⟩
  | pull => exact ⟨_, rfl, by rw [run, execPla, popState_requestStop, popValue_requestStop]; rfl⟩
  | txs | modify | logic | bit | jump | jumpIndirect | flag | nop | brk => exact ⟨_, rfl, rfl⟩

/-- A pending request stops the engine at point 5, as a STOP after it does (R71, R99). -/
theorem haltCheck_requestStop : s.requestStop.haltCheck = s.haltCheck.stopEngine := by
  have hpending : s.requestStop.haltCheck = s.requestStop.stopEngine :=
    if_pos (by simp [State.requestStop])
  rcases haltCheck_cases s with ⟨h, -⟩ | ⟨h, -⟩ <;> rw [hpending, h] <;> rfl

/-- A step answers a state, which a pending request turns into the stopped engine, or the same refusal. -/
theorem runInstruction_requestStop :
    (∃ t, s.runInstruction = .next t ∧ s.requestStop.runInstruction = .next t.stopEngine) ∨
      ∃ x, s.runInstruction = .refused x ∧ s.requestStop.runInstruction = .refused x := by
  cases hd : decode s.fetchBytes with
  | ok p =>
    have hd' : decode s.requestStop.fetchBytes = .ok p := hd
    obtain ⟨u, hu, hu'⟩ := (Template.of p.1).run_requestStop (s.consume 1#16)
    rw [← exec_eq_run] at hu hu'
    refine .inl ⟨u.haltCheck, ?_, ?_⟩
    · rw [runInstruction_of_decode hd, hu]; rfl
    · rw [runInstruction_of_decode hd', ← haltCheck_requestStop]
      exact congrArg finishStep hu'
  | error e =>
    have hd' : decode s.requestStop.fetchBytes = .error e := hd
    simp only [State.runInstruction, hd, hd']
    cases hx : s.extTable.contains (s.read s.pc) with
    | true => exact .inr ⟨_, if_pos hx, if_pos hx⟩
    | false =>
      have hn : ¬s.extTable.contains (s.read s.pc) = true := by rw [hx]; nofun
      exact .inl ⟨_, if_neg hn, if_neg hn⟩

end

/-- STOP in flight is the drawn step with the request pending (R99). -/
theorem hostMove_stopInFlight_of_enabled {s : State} (h : s.stepEnabled = true) :
    hostMove .stopInFlight s = .ofResult (drawnStep s.requestStop) := if_pos h

end Sys2Proof.Machine

open Sys2Proof Sys2Proof.Machine

/-- Settles O53: the pending request is seen at point 5 alone, where it stops the engine. -/
theorem stopInFlightEqualsStopAfterTheStep : Obligations.StopInFlightEqualsStopAfterTheStep := by
  intro s henabled _
  obtain ⟨hr, hh, hf⟩ := stepEnabled_iff.1 henabled
  rw [step_of_enabled hr hh hf, hostMove_stopInFlight_of_enabled henabled]
  rcases runInstruction_requestStop ((s.setDraws (s.draws + 1)).writeRandom (Config.rnd s.draws)) with
    ⟨u, hu, hu'⟩ | ⟨x, hx, hx'⟩
  · have hdrawn : drawnStep s = .next u := hu
    have hflight : drawnStep s.requestStop = .next u.stopEngine := hu'
    rw [hdrawn, hflight]
    exact ⟨fun t ht => by cases ht; rfl, nofun⟩
  · have hdrawn : drawnStep s = .refused x := hx
    have hflight : drawnStep s.requestStop = .refused x := hx'
    rw [hdrawn, hflight]
    exact ⟨nofun, fun y hy => by cases hy; rfl⟩

end

/-! ## The fetch, stack and flag primitives -/

section
namespace Sys2Proof.Machine

theorem toNat_lowByte (w : Word) : (lowByte w).toNat = w.toNat % 256 := BitVec.extractLsb'_toNat 0 8 w

theorem toNat_highByte (w : Word) : (highByte w).toNat = w.toNat / 256 := by
  rw [highByte, BitVec.extractLsb'_toNat, Nat.shiftRight_eq_div_pow]
  exact Nat.mod_eq_of_lt (Nat.div_lt_of_lt_mul w.isLt)

theorem ofNat_toNat_word (w : Word) : BitVec.ofNat 16 w.toNat = w := BitVec.ofNat_toNat 16 w

theorem zext16_eq_ofNat (b : Byte) : zext16 b = BitVec.ofNat 16 b.toNat := (BitVec.ofNat_toNat 16 b).symm

theorem toNat_zext16 (b : Byte) : (zext16 b).toNat = b.toNat :=
  BitVec.toNat_setWidth_of_le (by decide)

/-- The cells of the stack are 0x0100 to 0x01FF (R13, R38). -/
theorem toNat_stackAddr (sp : Byte) : (stackAddr sp).toNat = 0x100 + sp.toNat := by
  have hlt := sp.isLt
  rw [stackAddr, BitVec.toNat_add, toNat_zext16]
  exact Nat.mod_eq_of_lt (show 0x100 + sp.toNat < 65536 by omega)

theorem stackAddr_eq_ofNat (sp : Byte) : stackAddr sp = BitVec.ofNat 16 (0x100 + sp.toNat) := by
  rw [← toNat_stackAddr, ofNat_toNat_word]

end Sys2Proof.Machine

open Sys2Proof Sys2Proof.Machine

/-- Settles O14, by the laws of push. -/
theorem pushWritesThenDecrements : Obligations.PushWritesThenDecrements := by
  intro s v
  refine ⟨toNat_stackAddr s.sp, by simp, ?_, push_stackWraps s v, push_keepsAllBut s v⟩
  rw [push_sp, BitVec.toNat_sub, Nat.add_comm]; rfl

/-- Settles O15, by the laws of pop. -/
theorem popIncrementsThenReads : Obligations.PopIncrementsThenReads := by
  intro s
  have hsp : (s.sp + 1#8).toNat = (s.sp.toNat + 1) % 256 := BitVec.toNat_add _ _
  refine ⟨(congrArg BitVec.toNat (popState_sp s)).trans hsp, ?_, popState_stackWraps s, popState_keepsAllBut s⟩
  rw [popValue_eq, stackAddr_eq_ofNat, hsp]

/-- Settles O16: pop moves SP back to the cell that push wrote. -/
theorem popAfterPushReturnsTheByte : Obligations.PopAfterPushReturnsTheByte := by
  intro s v
  have hsp : (s.push v).sp + 1#8 = s.sp := by rw [push_sp, BitVec.sub_add_cancel]
  refine ⟨?_, (popState_sp _).trans hsp⟩
  rw [popValue_eq, hsp, push_read, if_pos rfl]

/-- Settles O17: the two fetches read at PC and move PC alone. -/
theorem popWordIsLittleEndian : Obligations.PopWordIsLittleEndian := by
  intro s
  rw [popWord_eq]
  exact ⟨rfl, rfl, consume_keepsAllBut s _, toNat_wordOf _ _, rfl, consume_keepsAllBut s _⟩

/-- Settles O13: every helper is one write of a flag, setSZ two. -/
theorem flagHelpersWriteTheirFlags : Obligations.FlagHelpersWriteTheirFlags := by
  intro s v
  have written (f : Flag) (b : Bool) : (s.setFlag f b).flag f = b := by simp
  have low_bit (x : Byte) : (s.setCarryFromBit0 x).carry = x.getLsbD 0 := written .c _
  refine ⟨⟨showsSZ_setSZ s v, setSZ_keepsAllBut s v⟩, ⟨low_bit v, setFlag_keepsAllBut s .c _⟩, fun c => ?_,
    ⟨written .c false, setFlag_keepsAllBut s .c _⟩, ⟨written .c true, setFlag_keepsAllBut s .c _⟩,
    ⟨written .v false, setFlag_keepsAllBut s .v _⟩, ⟨written .v true, setFlag_keepsAllBut s .v _⟩⟩
  have top_bit : v.getLsbD 7 = (v >>> 7).getLsbD 0 := by rw [BitVec.getLsbD_ushiftRight]
  rw [low_bit, low_bit]
  exact ⟨rfl, rfl, top_bit, top_bit⟩

end

/-! ## The addressing modes -/

section
namespace Sys2Proof.Machine

/-- A zero-page pointer's high byte lies one further, wrapping within the zero page (R34). -/
theorem toNat_zeroPagePointer (s : State) (p : Byte) :
    (s.zeroPagePointer p).toNat = (s.read (BitVec.ofNat 16 p.toNat)).toNat +
      256 * (s.read (BitVec.ofNat 16 ((p.toNat + 1) % 256))).toNat := by
  have hnext : (p + 1#8).toNat = (p.toNat + 1) % 256 := BitVec.toNat_add _ _
  rw [State.zeroPagePointer, toNat_wordOf, zext16_eq_ofNat, zext16_eq_ofNat, hnext]

/-- An index register moves an address modulo 65536 (R90, R91, R94). -/
theorem toNat_add_zext16 (w : Word) (b : Byte) : (w + zext16 b).toNat = (w.toNat + b.toNat) % 65536 := by
  rw [BitVec.toNat_add, toNat_zext16]

/-- On the pointer's own page, the next address keeps the high byte and takes the low byte of the sum (R92). -/
theorem indirectHighAddr_pageWrap (w : Word) :
    indirectHighAddr true w = wordOf (lowByte (w + 1#16)) (highByte w) := by
  have high_mask : ∀ i < 16, (0xFF00#16).getLsbD i = decide (8 ≤ i) := by decide
  have low_mask : ∀ i < 16, (0x00FF#16).getLsbD i = decide (i < 8) := by decide
  apply BitVec.eq_of_getLsbD_eq
  intro i hi
  rw [indirectHighAddr, if_pos rfl, BitVec.getLsbD_or, BitVec.getLsbD_and, BitVec.getLsbD_and, high_mask i hi,
    low_mask i hi, wordOf, lowByte, highByte, BitVec.getLsbD_append]
  by_cases h8 : i < 8
  · simp [h8]
  · have hback : 8 + (i - 8) = i := by omega
    have hlt : i - 8 < 8 := by omega
    simp [h8, hback, hlt, Nat.le_of_not_lt h8]

theorem indirectHighAddr_eq_ofNat (w : Word) :
    indirectHighAddr true w = BitVec.ofNat 16 (w.toNat / 256 * 256 + (w.toNat + 1) % 256) := by
  rw [← ofNat_toNat_word (indirectHighAddr true w), indirectHighAddr_pageWrap, toNat_wordOf]
  have hnext : (w + 1#16).toNat = (w.toNat + 1) % 65536 := BitVec.toNat_add _ _
  rw [toNat_lowByte, toNat_highByte, hnext, Nat.mod_mod_of_dvd _ (show 256 ∣ 65536 by decide), Nat.add_comm,
    Nat.mul_comm]

/-- The target that IND reads, with the high byte's address in numbers (R92). -/
theorem toNat_indirectTarget (s : State) (w : Word) :
    (s.indirectTarget true w).toNat = (s.read w).toNat +
      256 * (s.read (BitVec.ofNat 16 (w.toNat / 256 * 256 + (w.toNat + 1) % 256))).toNat := by
  rw [State.indirectTarget, toNat_wordOf, indirectHighAddr_eq_ofNat]

end Sys2Proof.Machine

open Sys2Proof Sys2Proof.Machine

/-- Settles O20, mode by mode. -/
theorem effectiveAddresses : Obligations.EffectiveAddresses := by
  intro s b w cell p
  refine ⟨toNat_zext16 b, ?_, ?_, rfl, toNat_add_zext16 w s.x, toNat_add_zext16 w s.y, ?_, ?_, ?_⟩
  · exact (toNat_zext16 _).trans (BitVec.toNat_add b s.x)
  · exact (toNat_zext16 _).trans (BitVec.toNat_add b s.y)
  · have hp : (b + s.x).toNat = p := BitVec.toNat_add b s.x
    rw [MemMode.ea, toNat_zeroPagePointer, hp]
  · rw [MemMode.ea, toNat_add_zext16, toNat_zeroPagePointer]
  · have hlow : cell w.toNat = (s.read w).toNat := congrArg (fun a => (s.read a).toNat) (ofNat_toNat_word w)
    rw [hlow]
    exact toNat_indirectTarget s w

end

/-! ## Compare -/

section
namespace Sys2Proof.Machine

/-- Bit 7 of a byte, read off its value. -/
theorem getLsbD_seven_iff (v : Byte) : v.getLsbD 7 = true ↔ 128 ≤ v.toNat := by
  rw [← v.msb_eq_getLsbD_last, v.msb_eq_decide, decide_eq_true_iff]

/-- The 8-bit difference, without a subtraction that could go below 0. -/
theorem toNat_sub_byte (r o : Byte) : (r - o).toNat = (r.toNat + 256 - o.toNat) % 256 := by
  have ho := o.isLt
  rw [BitVec.toNat_sub]
  congr 1
  omega

section
variable (b : Byte) (w : Word) (s : State)

/-! Every form compares its register with its source (R160 to R162). -/

theorem exec_cmp : ∀ f ∈ Forms.cmp b w, exec f.1 s = compareReg s.a f.2 s := by
  intro f hf
  fin_cases hf <;> rfl

theorem exec_cpx : ∀ f ∈ Forms.cpx b w, exec f.1 s = compareReg s.x f.2 s := by
  intro f hf
  fin_cases hf <;> rfl

theorem exec_cpy : ∀ f ∈ Forms.cpy b w, exec f.1 s = compareReg s.y f.2 s := by
  intro f hf
  fin_cases hf <;> rfl

end

end Sys2Proof.Machine

open Sys2Proof Sys2Proof.Machine

/-- Settles O35: every form is the one compare of its register with its source. -/
theorem comparesSetFlagsOnly : Obligations.ComparesSetFlagsOnly := by
  intro b w s g hg f hf r o
  have hexec : exec f.1 s = compareReg r f.2 s := by
    simp only [List.mem_cons, List.not_mem_nil, or_false] at hg
    rcases hg with rfl | rfl | rfl
    · exact exec_cmp b w s f hf
    · exact exec_cpx b w s f hf
    · exact exec_cpy b w s f hf
  obtain ⟨t, ht, hcarry, hzero, hnegative, hpc, frame⟩ := compareReg_spec r f.2 s
  refine ⟨t, hexec.trans ht, hcarry, hzero, ?_, hpc, frame⟩
  rw [hnegative, getLsbD_seven_iff, toNat_sub_byte]

end

/-! PROOFS. The family of spec/41_load_store_transfer.md: loads, stores, and the transfers between registers. -/

/-! ## Loads and stores -/

section
namespace Sys2Proof.Machine

section
variable (b : Byte) (w : Word) (s : State)

/-! Every form loads its register from its source (R110 to R112). -/

theorem exec_lda : ∀ f ∈ Forms.lda b w, exec f.1 s = loadA f.2 s := by
  intro f hf
  fin_cases hf <;> rfl

theorem exec_ldx : ∀ f ∈ Forms.ldx b w, exec f.1 s = loadX f.2 s := by
  intro f hf
  fin_cases hf <;> rfl

theorem exec_ldy : ∀ f ∈ Forms.ldy b w, exec f.1 s = loadY f.2 s := by
  intro f hf
  fin_cases hf <;> rfl

/-! Every form stores its register in the cell that its mode addresses (R113 to R115). -/

theorem exec_sta : ∀ f ∈ Forms.sta b w, exec f.1 s = storeByte s.a f.2 s := by
  intro f hf
  fin_cases hf <;> rfl

theorem exec_stx : ∀ f ∈ Forms.stx b w, exec f.1 s = storeByte s.x f.2 s := by
  intro f hf
  fin_cases hf <;> rfl

theorem exec_sty : ∀ f ∈ Forms.sty b w, exec f.1 s = storeByte s.y f.2 s := by
  intro f hf
  fin_cases hf <;> rfl

end

end Sys2Proof.Machine

open Sys2Proof Sys2Proof.Machine

/-- Settles O21: every form is the one load of its register. -/
theorem loadsWriteRegisterAndSZ : Obligations.LoadsWriteRegisterAndSZ := by
  intro b w s
  refine ⟨fun f hf => ?_, fun f hf => ?_, fun f hf => ?_⟩
  · rw [exec_lda b w s f hf]
    exact loadA_spec f.2 s
  · rw [exec_ldx b w s f hf]
    exact loadX_spec f.2 s
  · rw [exec_ldy b w s f hf]
    exact loadY_spec f.2 s

/-- Settles O22: every form is the one store, of its register. -/
theorem storesWriteOneCell : Obligations.StoresWriteOneCell := by
  intro b w s
  refine ⟨fun f hf => ?_, fun f hf => ?_, fun f hf => ?_⟩
  · rw [exec_sta b w s f hf]
    exact storeByte_spec s.a f.2 s
  · rw [exec_stx b w s f hf]
    exact storeByte_spec s.x f.2 s
  · rw [exec_sty b w s f hf]
    exact storeByte_spec s.y f.2 s

end

/-! ## Transfers -/

section
namespace Sys2Proof.Machine

/-- The part of the state that a destination register is. -/
def Dest.part : Dest → Part
  | .a => .a
  | .x => .x
  | .y => .y

def Dest.value (t : State) : Dest → Byte
  | .a => t.a
  | .x => t.x
  | .y => t.y

theorem value_put (s : State) (v : Byte) (d : Dest) : d.value (s.put v d) = v := by
  cases d <;> rfl

theorem value_setSZ (s : State) (v : Byte) (d : Dest) : d.value (s.setSZ v) = d.value s := by
  cases d <;> rfl

theorem setA_keepsAllBut (s : State) (v : Byte) : KeepsAllBut [.a] s (s.setA v) := by
  intro q hq
  cases q with
  | a => exact absurd (.head _) hq
  | _ => rfl

theorem setX_keepsAllBut (s : State) (v : Byte) : KeepsAllBut [.x] s (s.setX v) := by
  intro q hq
  cases q with
  | x => exact absurd (.head _) hq
  | _ => rfl

theorem setY_keepsAllBut (s : State) (v : Byte) : KeepsAllBut [.y] s (s.setY v) := by
  intro q hq
  cases q with
  | y => exact absurd (.head _) hq
  | _ => rfl

theorem put_keepsAllBut (s : State) (v : Byte) (d : Dest) : KeepsAllBut [d.part] s (s.put v d) := by
  cases d with
  | a => exact setA_keepsAllBut s v
  | x => exact setX_keepsAllBut s v
  | y => exact setY_keepsAllBut s v

/-- A transfer writes its destination, and Z and N from the value written. -/
theorem exec_transfer_spec {i : Instr} {d : Dest} {f : Byte → Byte} {r : Register}
    (hi : Template.of i = .transfer d f r) (s : State) :
    ∃ t, exec i s = .next t ∧ d.value t = f (r.value s) ∧ ShowsSZ (f (r.value s)) t ∧
      KeepsAllBut [d.part, .flag .z, .flag .n] s t := by
  refine ⟨(s.put (f (r.value s)) d).setSZ (f (r.value s)), ?_, ?_, showsSZ_setSZ _ _, ?_⟩
  · rw [exec_eq_run, hi, Template.run]
  · rw [value_setSZ, value_put]
  · exact (put_keepsAllBut s _ d).trans (setSZ_keepsAllBut _ _)

end Sys2Proof.Machine

open Sys2Proof Sys2Proof.Machine

/-- Settles O24: TAY, TXA, TYA and TSX are the transfer of their registers, and TXS is a write of SP alone. -/
theorem otherTransfersCopyOneRegister : Obligations.OtherTransfersCopyOneRegister := fun s =>
  ⟨exec_transfer_spec (i := .tay) rfl s, exec_transfer_spec (i := .txa) rfl s, exec_transfer_spec (i := .tya) rfl s,
    exec_transfer_spec (i := .tsx) rfl s, s.setSp s.x, rfl, rfl, setSp_keepsAllBut s s.x⟩

/-- Settles O23: TAX is the transfer of A to X. -/
theorem taxCopiesAAndSetsSZ : Obligations.TaxCopiesAAndSetsSZ :=
  exec_transfer_spec (i := .tax) rfl

end

/-! PROOFS. The family of spec/42_inc_dec.md: increment and decrement, of a memory cell and of an index register.

One modulo 256 up is an addition of 1 to the value, one down an addition of 255. -/

section
namespace Sys2Proof.Machine

theorem toNat_add_one_byte (v : Byte) : (v + 1#8).toNat = (v.toNat + 1) % 256 := BitVec.toNat_add v 1#8

theorem toNat_sub_one_byte (v : Byte) : (v - 1#8).toNat = (v.toNat + 255) % 256 := toNat_sub_byte v 1#8

section
variable (b : Byte) (w : Word) (s : State)

/-! Every form modifies the cell that its mode addresses (R130, R131). -/

theorem exec_inc : ∀ f ∈ Forms.inc b w, exec f.1 s = modifyByte (· + 1#8) f.2 s := by
  intro f hf
  fin_cases hf <;> rfl

theorem exec_dec : ∀ f ∈ Forms.dec b w, exec f.1 s = modifyByte (· - 1#8) f.2 s := by
  intro f hf
  fin_cases hf <;> rfl

end

section
variable {g : Byte → Byte} {k : Nat} (hg : ∀ v, (g v).toNat = (v.toNat + k) % 256)
include hg

/-- A modification that adds `k` modulo 256 does so to its cell's value. -/
theorem modifyByte_add_spec (m : MemMode) (s : State) :
    ∃ t, modifyByte g m s = .next t ∧ (t.read (m.ea s)).toNat = ((s.read (m.ea s)).toNat + k) % 256 ∧
      ShowsSZ (t.read (m.ea s)) t ∧ t.pc = s.pc + m.operandBytes ∧
      KeepsAllBut [.cell (m.ea s), .flag .z, .flag .n, .pc] s t := by
  obtain ⟨t, ht, hcell, hrest⟩ := modifyByte_spec g m s
  exact ⟨t, ht, hcell ▸ hg _, hrest⟩

/-- A transfer that adds `k` modulo 256 gives its destination the source's value so moved. -/
theorem exec_transfer_add_spec {i : Instr} {d : Dest} {r : Register} (hi : Template.of i = .transfer d g r) (s : State) :
    ∃ t, exec i s = .next t ∧ (d.value t).toNat = ((r.value s).toNat + k) % 256 ∧ ShowsSZ (d.value t) t ∧
      KeepsAllBut [d.part, .flag .z, .flag .n] s t := by
  obtain ⟨t, ht, hvalue, hsz, frame⟩ := exec_transfer_spec hi s
  exact ⟨t, ht, hvalue ▸ hg _, hvalue ▸ hsz, frame⟩

end

end Sys2Proof.Machine

open Sys2Proof Sys2Proof.Machine

/-- Settles O25: every form is the one modification of its cell, by 1 or by 255 modulo 256. -/
theorem incDecModifyOneCell : Obligations.IncDecModifyOneCell := by
  intro b w s
  refine ⟨fun f hf => ?_, fun f hf => ?_⟩
  · rw [exec_inc b w s f hf]
    exact modifyByte_add_spec toNat_add_one_byte f.2 s
  · rw [exec_dec b w s f hf]
    exact modifyByte_add_spec toNat_sub_one_byte f.2 s

/-- Settles O26: each is the transfer of an index register to itself, by 1 or by 255 modulo 256. -/
theorem indexIncrementsWrap : Obligations.IndexIncrementsWrap := fun s =>
  ⟨exec_transfer_add_spec toNat_add_one_byte (i := .inx) rfl s,
    exec_transfer_add_spec toNat_add_one_byte (i := .iny) rfl s,
    exec_transfer_add_spec toNat_sub_one_byte (i := .dex) rfl s,
    exec_transfer_add_spec toNat_sub_one_byte (i := .dey) rfl s⟩

end

/-! PROOFS. The family of spec/43_logic_arith.md: AND, ORA, EOR and BIT, and ADC and SBC in both modes. -/

/-! ## Logic -/

section
namespace Sys2Proof.Machine

section
variable (b : Byte) (w : Word) (s : State)

/-! Every form combines A with its source (R140 to R142), or tests the one against the other (R145). -/

theorem exec_and : ∀ f ∈ Forms.and b w, exec f.1 s = logicA (· &&& ·) f.2 s := by
  intro f hf
  fin_cases hf <;> rfl

theorem exec_ora : ∀ f ∈ Forms.ora b w, exec f.1 s = logicA (· ||| ·) f.2 s := by
  intro f hf
  fin_cases hf <;> rfl

theorem exec_eor : ∀ f ∈ Forms.eor b w, exec f.1 s = logicA (· ^^^ ·) f.2 s := by
  intro f hf
  fin_cases hf <;> rfl

theorem exec_bit : ∀ f ∈ Forms.bit b w, exec f.1 s = bitTest f.2 s := by
  intro f hf
  fin_cases hf <;> rfl

end

/-- An operation on bytes that works bit by bit does so to A and the operand. -/
theorem logicA_bitwise_spec {f : Byte → Byte → Byte} {g : Bool → Bool → Bool}
    (hfg : ∀ x y k, (f x y).getLsbD k = g (x.getLsbD k) (y.getLsbD k)) (src : Src) (s : State) :
    ∃ t, logicA f src s = .next t ∧ (∀ k, t.a.getLsbD k = g (s.a.getLsbD k) ((src.value s).getLsbD k)) ∧
      ShowsSZ t.a t ∧ t.pc = s.pc + src.operandBytes ∧ KeepsAllBut [.a, .flag .z, .flag .n, .pc] s t := by
  obtain ⟨t, ht, ha, hrest⟩ := logicA_spec f src s
  exact ⟨t, ht, fun k => ha ▸ hfg s.a (src.value s) k, hrest⟩

end Sys2Proof.Machine

open Sys2Proof Sys2Proof.Machine

/-- Settles O27: every form is the one bitwise operation on A. -/
theorem andOraCombineWithA : Obligations.AndOraCombineWithA := by
  intro b w s
  refine ⟨fun f hf => ?_, fun f hf => ?_⟩
  · rw [exec_and b w s f hf]
    exact logicA_bitwise_spec (fun _ _ _ => BitVec.getLsbD_and) f.2 s
  · rw [exec_ora b w s f hf]
    exact logicA_bitwise_spec (fun _ _ _ => BitVec.getLsbD_or) f.2 s

/-- Settles O28: EOR is the bitwise operation on A, BIT the one test. -/
theorem eorAndBitTestOperand : Obligations.EorAndBitTestOperand := by
  intro b w s
  refine ⟨fun f hf => ?_, fun f hf => ?_⟩
  · rw [exec_eor b w s f hf]
    exact logicA_bitwise_spec (fun _ _ _ => BitVec.getLsbD_xor) f.2 s
  · rw [exec_bit b w s f hf]
    exact bitTest_spec f.2 s

end

/-! ## Addition and subtraction

ADC is the exact sum, and SBC is ADC with the complement of the operand (R144), so what SBC does follows from what ADC
does. -/

section
namespace Sys2Proof.Machine

section
variable (b : Byte) (w : Word) (s : State)

/-! Every form does the arithmetic of its mnemonic on A and its source (R143, R144). -/

theorem exec_adc : ∀ f ∈ Forms.adc b w, exec f.1 s = arithA .adc adcResult f.2 s := by
  intro f hf
  fin_cases hf <;> rfl

theorem exec_sbc : ∀ f ∈ Forms.sbc b w, exec f.1 s = arithA .sbc sbcResult f.2 s := by
  intro f hf
  fin_cases hf <;> rfl

end

theorem carryNat_le_one (c : Bool) : carryNat c ≤ 1 := by cases c <;> decide

theorem carryNat_eq_one_iff (c : Bool) : carryNat c = 1 ↔ c = true := by cases c <;> decide

/-- A byte as a signed number. -/
theorem toInt_byte (v : Byte) : v.toInt = if v.toNat < 128 then (v.toNat : Int) else v.toNat - 256 := by
  rw [BitVec.toInt_eq_toNat_cond]
  split <;> split <;> omega

section
variable (a m : Byte) (c : Bool)

/-- The carry and the value are the exact sum (R143). -/
theorem adcResult_sum :
    256 * carryNat (adcResult a m c).carry + (adcResult a m c).value.toNat = a.toNat + m.toNat + carryNat c := by
  have ha := a.isLt
  have hm := m.isLt
  have hc := carryNat_le_one c
  have hvalue : (adcResult a m c).value.toNat = (a.toNat + m.toNat + carryNat c) % 256 := BitVec.toNat_ofNat _ _
  have hcarry : (adcResult a m c).carry = true ↔ 0xFF < a.toNat + m.toNat + carryNat c := decide_eq_true_iff
  rw [← carryNat_eq_one_iff] at hcarry
  have hle := carryNat_le_one (adcResult a m c).carry
  omega

/-- V compares top bits: the operands agree and the result differs from them (R143). -/
theorem adcResult_overflow_iff_topBits : (adcResult a m c).overflow = true ↔
    (128 ≤ a.toNat ↔ 128 ≤ m.toNat) ∧ ¬(128 ≤ a.toNat ↔ 128 ≤ (adcResult a m c).value.toNat) := by
  have hbits : (adcResult a m c).overflow = true ↔
      (~~~(a ^^^ m) &&& (a ^^^ (adcResult a m c).value)).getLsbD 7 = true :=
    bne_iff_ne.trans (and_0x80_ne_zero _)
  rw [hbits, ← getLsbD_seven_iff, ← getLsbD_seven_iff, ← getLsbD_seven_iff]
  simp

/-- V is 1 exactly where the signed sum does not fit in a byte (R143). -/
theorem adcResult_overflow_iff : (adcResult a m c).overflow = true ↔
    a.toInt + m.toInt + (carryNat c : Int) < -128 ∨ 127 < a.toInt + m.toInt + (carryNat c : Int) := by
  have hsum := adcResult_sum a m c
  have hc := carryNat_le_one c
  have hcarry := carryNat_le_one (adcResult a m c).carry
  have ha := a.isLt
  have hm := m.isLt
  have hr := (adcResult a m c).value.isLt
  rw [adcResult_overflow_iff_topBits, toInt_byte, toInt_byte]
  split <;> split <;> omega

end

/-! The complement of a byte, and its value. -/

theorem xor_0xFF (m : Byte) : m ^^^ 0xFF#8 = ~~~m := BitVec.xor_allOnes

theorem toNat_not_byte (m : Byte) : (~~~m).toNat = 255 - m.toNat := BitVec.toNat_not

theorem toInt_not_byte (m : Byte) : (~~~m).toInt = -m.toInt - 1 := by
  have hm := m.isLt
  rw [toInt_byte, toInt_byte, toNat_not_byte]
  split <;> split <;> omega

/-- SBC is ADC with the complement of the operand (R144): the exact numbers differ by 256, and V's formulas are one. -/
theorem sbcResult_eq_adcResult_not (a m : Byte) (c : Bool) : sbcResult a m c = adcResult a (~~~m) c := by
  have hm := m.isLt
  have hc := carryNat_le_one c
  have hdiff : (a.toNat : Int) - m.toNat - (1 - carryNat c) =
      ((a.toNat + (~~~m).toNat + carryNat c : Nat) : Int) - 256 := by
    rw [toNat_not_byte]; omega
  have hvalue : BitVec.ofInt 8 ((a.toNat : Int) - m.toNat - (1 - carryNat c)) =
      BitVec.ofNat 8 (a.toNat + (~~~m).toNat + carryNat c) := by
    apply BitVec.eq_of_toNat_eq
    rw [hdiff, BitVec.toNat_ofInt, BitVec.toNat_ofNat]
    omega
  have hcarry : (a.toNat : Int) - m.toNat - (1 - carryNat c) ≥ 0 ↔
      a.toNat + (~~~m).toNat + carryNat c > 0xFF := by
    rw [hdiff]; omega
  have hoverflow : a ^^^ m = ~~~(a ^^^ ~~~m) := by
    rw [BitVec.not_xor_right, BitVec.not_not]
  simp only [sbcResult, adcResult, hvalue, hcarry, ← hoverflow]

section
variable (a m : Byte) (c : Bool)

/-- What SBC writes to A and C, from the sum that ADC makes of the complement (R144). -/
theorem sbcResult_difference :
    ((sbcResult a m c).value.toNat : Int) = ((a.toNat : Int) - m.toNat - (1 - carryNat c : Nat)) % 256 ∧
      ((sbcResult a m c).carry = true ↔ m.toNat + (1 - carryNat c) ≤ a.toNat) := by
  have hsum := adcResult_sum a (~~~m) c
  have hm := m.isLt
  have hc := carryNat_le_one c
  have hcarry := carryNat_le_one (adcResult a (~~~m) c).carry
  have hr := (adcResult a (~~~m) c).value.isLt
  rw [toNat_not_byte] at hsum
  rw [sbcResult_eq_adcResult_not, ← carryNat_eq_one_iff]
  omega

/-- V is 1 exactly where the signed difference does not fit in a byte (R144). -/
theorem sbcResult_overflow_iff : (sbcResult a m c).overflow = true ↔
    a.toInt - m.toInt - ((1 - carryNat c : Nat) : Int) < -128 ∨
      127 < a.toInt - m.toInt - ((1 - carryNat c : Nat) : Int) := by
  have hc := carryNat_le_one c
  rw [sbcResult_eq_adcResult_not, adcResult_overflow_iff, toInt_not_byte]
  omega

end

end Sys2Proof.Machine

open Sys2Proof Sys2Proof.Machine

/-- Settles O31: the exclusive or with 0xFF is the complement. -/
theorem sbcIsAdcOfTheComplement : Obligations.SbcIsAdcOfTheComplement := by
  intro a m c
  rw [xor_0xFF, sbcResult_eq_adcResult_not]

/-- Settles O29: every form is the one addition, whose carry and value are the exact sum. -/
theorem adcAddsWithCarryAndSignedOverflow : Obligations.AdcAddsWithCarryAndSignedOverflow := by
  intro b w s hd f hf m sum
  obtain ⟨t, ht, ha, hc, hv, hrest⟩ := arithA_binary_spec .adc adcResult f.2 s hd
  refine ⟨t, (exec_adc b w s f hf).trans ht, ?_, ?_, hrest⟩
  · rw [ha, hc]
    exact adcResult_sum s.a m s.carry
  · rw [hv]
    exact adcResult_overflow_iff s.a m s.carry

/-- Settles O30: every form is the one subtraction, which adds the complement. -/
theorem sbcSubtractsWithBorrowAndSignedOverflow : Obligations.SbcSubtractsWithBorrowAndSignedOverflow := by
  intro b w s hd f hf m borrow diff
  obtain ⟨t, ht, ha, hc, hv, hrest⟩ := arithA_binary_spec .sbc sbcResult f.2 s hd
  obtain ⟨hvalue, hcarry⟩ := sbcResult_difference s.a m s.carry
  refine ⟨t, (exec_sbc b w s f hf).trans ht, ?_, ?_, ?_, hrest⟩
  · rw [ha]
    exact hvalue
  · rw [hc]
    exact hcarry
  · rw [hv]
    exact sbcResult_overflow_iff s.a m s.carry

/-- Settles O32: in decimal mode the template consumes its operand and writes the open values alone. -/
theorem decimalArithmeticCompletesWithOpenValues : Obligations.DecimalArithmeticCompletesWithOpenValues := by
  intro b w s hd f hf
  rcases List.mem_append.1 hf with hf | hf
  · rw [exec_adc b w s f hf]
    exact arithA_decimal_spec .adc adcResult f.2 s hd
  · rw [exec_sbc b w s f hf]
    exact arithA_decimal_spec .sbc sbcResult f.2 s hd

end

/-! PROOFS. The family of spec/44_shift_rotate.md: shifts and rotates, of A and of a memory cell.

A shift is the rotate with 0 as the bit that enters (R150, R151), so what the two rotates compute says what all four
compute. -/

/-! ## What a shift or rotate computes -/

section
namespace Sys2Proof.Machine

/-- One step to the left: `enter` comes in at bit 0, bit 7 goes out to `out` (R150, R152). -/
def MovesLeft (old : Byte) (enter : Bool) (new : Byte) (out : Bool) : Prop :=
  256 * carryNat out + new.toNat = 2 * old.toNat + carryNat enter

/-- One step to the right: `enter` comes in at bit 7, bit 0 goes out to `out` (R151, R153). -/
def MovesRight (old : Byte) (enter : Bool) (new : Byte) (out : Bool) : Prop :=
  2 * new.toNat + carryNat out = old.toNat + 256 * carryNat enter

theorem carryNat_getLsbD (v : Byte) (k : Nat) : carryNat (v.getLsbD k) = v.toNat / 2 ^ k % 2 := by
  rw [← Nat.toNat_testBit, ← BitVec.testBit_toNat]
  cases v.toNat.testBit k <;> rfl

section
variable (v : Byte) (c : Bool)

/-- The bit that enters does not overlap the byte moved to the left, so the two add up. -/
theorem toNat_rolResult : (rolResult v c).value.toNat = 2 * (v.toNat % 128) + carryNat c := by
  have hbit : (if c then 0x01#8 else 0x00#8).toNat = carryNat c := by cases c <;> rfl
  have hmoved : (v <<< 1).toNat = 2 * (v.toNat % 128) := by
    rw [BitVec.toNat_shiftLeft, Nat.shiftLeft_eq]
    omega
  have hc : carryNat c < 2 ^ 1 := Nat.lt_succ_of_le (carryNat_le_one c)
  rw [rolResult, BitVec.toNat_or, hbit, hmoved]
  exact (Nat.two_pow_add_eq_or_of_lt hc (v.toNat % 128)).symm

/-- The bit that enters does not overlap the byte moved to the right, so the two add up. -/
theorem toNat_rorResult : (rorResult v c).value.toNat = 128 * carryNat c + v.toNat / 2 := by
  have hbit : (if c then 0x80#8 else 0x00#8).toNat = 128 * carryNat c := by cases c <;> rfl
  have hmoved : (v >>> 1).toNat = v.toNat / 2 := by
    rw [BitVec.toNat_ushiftRight, Nat.shiftRight_eq_div_pow]
  have hv : v.toNat / 2 < 2 ^ 7 := Nat.div_lt_of_lt_mul v.isLt
  rw [rorResult, BitVec.toNat_or, hbit, hmoved, Nat.or_comm]
  exact (Nat.two_pow_add_eq_or_of_lt hv (carryNat c)).symm

theorem rolResult_movesLeft : MovesLeft v c (rolResult v c).value (rolResult v c).carry := by
  have hv := v.isLt
  have hcarry : carryNat (rolResult v c).carry = v.toNat / 128 % 2 := carryNat_getLsbD v 7
  rw [MovesLeft, toNat_rolResult, hcarry]
  omega

theorem rorResult_movesRight : MovesRight v c (rorResult v c).value (rorResult v c).carry := by
  have hcarry : carryNat (rorResult v c).carry = v.toNat / 1 % 2 := carryNat_getLsbD v 0
  rw [MovesRight, toNat_rorResult, hcarry]
  omega

theorem aslResult_eq_rolResult_false : aslResult v c = rolResult v false :=
  congrArg (ShiftResult.mk · (v.getLsbD 7)) BitVec.or_zero.symm

theorem lsrResult_eq_rorResult_false : lsrResult v c = rorResult v false :=
  congrArg (ShiftResult.mk · (v.getLsbD 0)) BitVec.or_zero.symm

theorem aslResult_movesLeft : MovesLeft v false (aslResult v c).value (aslResult v c).carry :=
  aslResult_eq_rolResult_false v c ▸ rolResult_movesLeft v false

theorem lsrResult_movesRight : MovesRight v false (lsrResult v c).value (lsrResult v c).carry :=
  lsrResult_eq_rorResult_false v c ▸ rorResult_movesRight v false

end

end Sys2Proof.Machine
end

/-! ## Shifts of A and of a memory cell -/

section
namespace Sys2Proof.Machine

section
variable (b : Byte) (w : Word) (s : State)

/-! Every memory form shifts the cell that its mode addresses (R150 to R153). -/

theorem exec_asl_mem : ∀ f ∈ Forms.memoryShifts (Forms.asl b w), exec f.1 s = shiftByte aslResult (.mem f.2) s := by
  intro f hf
  fin_cases hf <;> rfl

theorem exec_lsr_mem : ∀ f ∈ Forms.memoryShifts (Forms.lsr b w), exec f.1 s = shiftByte lsrResult (.mem f.2) s := by
  intro f hf
  fin_cases hf <;> rfl

theorem exec_rol_mem : ∀ f ∈ Forms.memoryShifts (Forms.rol b w), exec f.1 s = shiftByte rolResult (.mem f.2) s := by
  intro f hf
  fin_cases hf <;> rfl

theorem exec_ror_mem : ∀ f ∈ Forms.memoryShifts (Forms.ror b w), exec f.1 s = shiftByte rorResult (.mem f.2) s := by
  intro f hf
  fin_cases hf <;> rfl

end

section
variable {Moves : Byte → Bool → Byte → Bool → Prop} {enter : Bool → Bool} {g : Byte → Bool → ShiftResult}
  (hg : ∀ v c, Moves v (enter c) (g v c).value (g v c).carry)
include hg

/-- What the computation does to a byte, the shift in mode ACC does to A and C (R84). -/
theorem shiftByte_acc_moves (s : State) :
    ∃ t, shiftByte g .acc s = .next t ∧ Moves s.a (enter s.carry) t.a t.carry ∧ ShowsSZ t.a t ∧
      KeepsAllBut [.a, .flag .c, .flag .z, .flag .n] s t := by
  obtain ⟨t, ht, ha, hc, hrest⟩ := shiftByte_acc_spec g s
  exact ⟨t, ht, ha ▸ hc ▸ hg _ _, hrest⟩

/-- What the computation does to a byte, the shift in a memory mode does to its cell and C (R97). -/
theorem shiftByte_mem_moves (m : MemMode) (s : State) :
    ∃ t, shiftByte g (.mem m) s = .next t ∧
      Moves (s.read (m.ea s)) (enter s.carry) (t.read (m.ea s)) t.carry ∧ ShowsSZ (t.read (m.ea s)) t ∧
      t.pc = s.pc + m.operandBytes ∧ KeepsAllBut [.cell (m.ea s), .flag .c, .flag .z, .flag .n, .pc] s t := by
  obtain ⟨t, ht, hcell, hc, hrest⟩ := shiftByte_mem_spec g m s
  exact ⟨t, ht, hcell ▸ hc ▸ hg _ _, hrest⟩

end

end Sys2Proof.Machine

open Sys2Proof Sys2Proof.Machine

/-- Settles O33: each is the one shift of A, by a computation that moves one bit. -/
theorem accumulatorShiftsMoveOneBit : Obligations.AccumulatorShiftsMoveOneBit := fun s =>
  ⟨shiftByte_acc_moves (Moves := MovesLeft) aslResult_movesLeft s,
    shiftByte_acc_moves (Moves := MovesRight) lsrResult_movesRight s,
    shiftByte_acc_moves (Moves := MovesLeft) rolResult_movesLeft s,
    shiftByte_acc_moves (Moves := MovesRight) rorResult_movesRight s⟩

/-- Settles O34: every form is the one shift of its cell, by a computation that moves one bit. -/
theorem memoryShiftsMoveOneBit : Obligations.MemoryShiftsMoveOneBit := by
  intro b w s
  refine ⟨fun f hf => ?_, fun f hf => ?_, fun f hf => ?_, fun f hf => ?_⟩
  · rw [exec_asl_mem b w s f hf]
    exact shiftByte_mem_moves (Moves := MovesLeft) aslResult_movesLeft f.2 s
  · rw [exec_lsr_mem b w s f hf]
    exact shiftByte_mem_moves (Moves := MovesRight) lsrResult_movesRight f.2 s
  · rw [exec_rol_mem b w s f hf]
    exact shiftByte_mem_moves (Moves := MovesLeft) rolResult_movesLeft f.2 s
  · rw [exec_ror_mem b w s f hf]
    exact shiftByte_mem_moves (Moves := MovesRight) rorResult_movesRight f.2 s

end

/-! PROOFS. The family of spec/46_jump_branch_subroutine.md: jumps, subroutine call and return, and the branches. -/

/-! ## Jumps -/

section
open Sys2Proof Sys2Proof.Machine

/-- Settles O36: both forms are a write of PC, JMP IND with what its pointer holds. -/
theorem jmpWritesOnlyPc : Obligations.JmpWritesOnlyPc := fun w s =>
  ⟨⟨s.setPc w, rfl, rfl, setPc_keepsAllBut s w⟩,
    s.setPc (s.indirectTarget true w), rfl, toNat_indirectTarget s w, setPc_keepsAllBut s _⟩

end

/-! ## Subroutine call and return -/

section
namespace Sys2Proof.Machine

/-- Of two pushes in a row, at most one wraps: the first from 0x00, the second from 0x01 (R82). -/
theorem wraps_of_two_pushes (sp : Byte) :
    ((if sp = 0x00#8 then 1 else 0) + if sp - 1#8 = 0x00#8 then 1 else 0) = if sp.toNat ≤ 1 then 1 else 0 := by
  have hsp := sp.isLt
  have first : sp = 0x00#8 ↔ sp.toNat = 0 := BitVec.toNat_inj.symm
  have second : sp - 1#8 = 0x00#8 ↔ sp.toNat = 1 := by
    rw [← BitVec.toNat_inj, toNat_sub_one_byte, BitVec.toNat_ofNat]
    omega
  simp only [first, second]
  split_ifs <;> omega

/-- Of two pops in a row, at most one wraps: the first from 0xFF, the second from 0xFE (R82). -/
theorem wraps_of_two_pops (sp : Byte) :
    ((if sp = 0xFF#8 then 1 else 0) + if sp + 1#8 = 0xFF#8 then 1 else 0) = if 0xFE ≤ sp.toNat then 1 else 0 := by
  have hsp := sp.isLt
  have first : sp = 0xFF#8 ↔ sp.toNat = 255 := BitVec.toNat_inj.symm
  have second : sp + 1#8 = 0xFF#8 ↔ sp.toNat = 254 := by
    rw [← BitVec.toNat_inj, toNat_add_one_byte, BitVec.toNat_ofNat]
    omega
  simp only [first, second]
  split_ifs <;> omega

/-- Two pushes in a row write two cells, so the second leaves what the first one wrote. -/
theorem stackAddr_ne_stackAddr_sub_one (sp : Byte) : stackAddr sp ≠ stackAddr (sp - 1#8) := by
  rw [Ne, stackAddr_inj]
  bv_omega

/-- A call pushes the address of its last byte in two pushes, and its target goes to PC (R171). -/
theorem callSubroutine_spec (w : Word) (s : State) :
    ∃ t, callSubroutine w s = .next t ∧ t.pc = w ∧ t.sp = s.sp - 2#8 ∧
      t.read (stackAddr s.sp) = highByte (s.pc + 1#16) ∧
      t.read (stackAddr (s.sp - 1#8)) = lowByte (s.pc + 1#16) ∧
      t.stackWraps = s.stackWraps + (if s.sp.toNat ≤ 1 then 1 else 0) ∧
      KeepsAllBut [.pc, .sp, .cell (stackAddr s.sp), .cell (stackAddr (s.sp - 1#8)), .stackWraps] s t := by
  have hret : (s.consume 2#16).pc - 1#16 = s.pc + 1#16 := by rw [consume_pc]; bv_omega
  refine ⟨_, rfl, rfl, ?_, ?_, ?_, ?_, ?_⟩
  · rw [setPc_sp, push_sp, push_sp, consume_sp]
    bv_omega
  · rw [hret]
    simp [stackAddr_ne_stackAddr_sub_one]
  · rw [hret]
    simp
  · rw [setPc_stackWraps, push_stackWraps, push_stackWraps, push_sp, Nat.add_assoc, consume_sp, wraps_of_two_pushes,
      consume_stackWraps]
  · exact ((((consume_keepsAllBut s _).trans (push_keepsAllBut _ _)).trans (push_keepsAllBut _ _)).trans
      (setPc_keepsAllBut _ w)).mono (by simp)

/-- A return pops an address in two pops and goes one past it (R172). -/
theorem returnFromSubroutine_spec (s : State) :
    ∃ t, returnFromSubroutine s = .next t ∧
      t.pc = wordOf (s.read (stackAddr (s.sp + 1#8))) (s.read (stackAddr (s.sp + 2#8))) + 1#16 ∧ t.sp = s.sp + 2#8 ∧
      t.stackWraps = s.stackWraps + (if 0xFE ≤ s.sp.toNat then 1 else 0) ∧ KeepsAllBut [.pc, .sp, .stackWraps] s t := by
  have hsp : s.sp + 1#8 + 1#8 = s.sp + 2#8 := by bv_omega
  refine ⟨_, rfl, ?_, ?_, ?_, ?_⟩
  · rw [setPc_pc, popValue_eq, popValue_eq, popState_read, popState_sp, hsp]
  · rw [setPc_sp, popState_sp, popState_sp, hsp]
  · rw [setPc_stackWraps, popState_stackWraps, popState_stackWraps, popState_sp, Nat.add_assoc, wraps_of_two_pops]
  · exact (((popState_keepsAllBut s).trans (popState_keepsAllBut _)).trans (setPc_keepsAllBut _ _)).mono (by simp)

end Sys2Proof.Machine

open Sys2Proof Sys2Proof.Machine

/-- Settles O37: what a call leaves, read as numbers. -/
theorem jsrPushesReturnAddress : Obligations.JsrPushesReturnAddress := by
  intro w s
  obtain ⟨t, ht, hpc, hsp, hhigh, hlow, hwraps, frame⟩ := callSubroutine_spec w s
  refine ⟨t, ht, hpc, ?_, ?_, ?_, hwraps, frame⟩
  · rw [hsp, toNat_sub_byte]
    rfl
  · exact (congrArg BitVec.toNat hhigh).trans (toNat_highByte _)
  · exact (congrArg BitVec.toNat hlow).trans (toNat_lowByte _)

/-- Settles O38: what a return leaves, read as numbers. -/
theorem rtsReturnsPastPoppedAddress : Obligations.RtsReturnsPastPoppedAddress := by
  intro s
  obtain ⟨t, ht, hpc, hsp, hwraps, frame⟩ := returnFromSubroutine_spec s
  refine ⟨t, ht, ?_, ?_, hwraps, frame⟩
  · rw [hpc, BitVec.toNat_add, toNat_wordOf]
    rfl
  · rw [hsp, BitVec.toNat_add]
    rfl

/-- Settles O39: the return reads the two cells that the call wrote, in the other order, so their bytes make up the
address that was pushed. -/
theorem rtsUndoesJsr : Obligations.RtsUndoesJsr := by
  intro w s t u v hjsr husp hhigh hlow hrts
  obtain ⟨t', ht', -, htsp, hthigh, htlow, -, -⟩ := callSubroutine_spec w s
  obtain ⟨v', hv', hvpc, hvsp, -, -⟩ := returnFromSubroutine_spec u
  obtain rfl : t' = t := Host.Outcome.next.inj (ht'.symm.trans hjsr)
  obtain rfl : v' = v := Host.Outcome.next.inj (hv'.symm.trans hrts)
  have first : u.sp + 1#8 = s.sp - 1#8 := by rw [husp, htsp]; bv_omega
  have second : u.sp + 2#8 = s.sp := by rw [husp, htsp, BitVec.sub_add_cancel]
  have low : u.read (stackAddr (s.sp - 1#8)) = lowByte (s.pc + 1#16) := hlow.trans htlow
  have popped : wordOf (u.read (stackAddr (u.sp + 1#8))) (u.read (stackAddr (u.sp + 2#8))) = s.pc + 1#16 := by
    rw [first, second, hhigh, hthigh, low, wordOf_lowByte_highByte]
  constructor
  · rw [hvpc, popped, BitVec.add_assoc]
    rfl
  · exact hvsp.trans second

end

/-! ## Branches -/

section
namespace Sys2Proof.Machine

/-- Every branch is the template with its condition (R173 to R180). -/
theorem exec_branches (b : Byte) (s : State) : ∀ f ∈ Forms.branches b s, exec f.1 s = branchIf f.2 b s := by
  intro f hf
  fin_cases hf <;> rfl

/-- The offset of `jumpBranch` counts as a signed number (R79). -/
theorem toNat_branchTarget (pc : Word) (off : Byte) :
    ((branchTarget pc off).toNat : Int) = ((pc.toNat : Int) + off.toInt) % 65536 := by
  have hoff := off.isLt
  rw [branchTarget, toInt_byte]
  split
  · rw [if_neg (by omega), BitVec.toNat_sub, BitVec.toNat_ofNat]
    omega
  · rw [if_pos (by omega), toNat_add_zext16]
    omega

end Sys2Proof.Machine

open Sys2Proof Sys2Proof.Machine

/-- Settles O40: every branch consumes its offset, then goes to the target or stays there. -/
theorem branchesTestOneFlag : Obligations.BranchesTestOneFlag := by
  intro b s f hf
  obtain ⟨t, ht, hpc, frame⟩ := branchIf_spec f.2 b s
  have hnext : ((s.pc + 1#16).toNat : Int) = ((s.pc.toNat : Int) + 1) % 65536 := by
    rw [BitVec.toNat_add]
    rfl
  refine ⟨t, (exec_branches b s f hf).trans ht, ?_, frame⟩
  rw [hpc]
  cases f.2 with
  | true => rw [if_pos rfl, if_pos rfl, toNat_branchTarget, hnext, Int.emod_add_emod]
  | false => rw [if_neg Bool.false_ne_true, if_neg Bool.false_ne_true, hnext, Int.add_zero]

end

/-! PROOFS. The family of spec/47_stack_flag_misc.md: PHA, PHP and PLA, the flag instructions, NOP and BRK. -/

/-! ## Stack and flag instructions -/

section
namespace Sys2Proof.Machine

/-- Every flag instruction is one flag write (R193 to R197). -/
theorem exec_flagWrites (s : State) : ∀ f ∈ Forms.flagWrites, exec f.1 s = .next (s.setFlag f.2.1 f.2.2) := by
  intro f hf
  fin_cases hf <;> rfl

/-- An instruction that pushes a byte leaves what `push` leaves (R80, R82). -/
theorem exec_push_spec {i : Instr} {s : State} {v : Byte} (hi : exec i s = .next (s.push v)) :
    ∃ t, exec i s = .next t ∧ t.read (stackAddr s.sp) = v ∧ t.sp.toNat = (s.sp.toNat + 255) % 256 ∧
      t.stackWraps = s.stackWraps + (if s.sp = 0x00#8 then 1 else 0) ∧
      KeepsAllBut [.cell (stackAddr s.sp), .sp, .stackWraps] s t :=
  have ⟨_, hpushed⟩ := pushWritesThenDecrements s v
  ⟨s.push v, hi, hpushed⟩

end Sys2Proof.Machine

open Sys2Proof Sys2Proof.Machine

/-- Settles O41: both are one push, of A and of P. -/
theorem phaPhpPushOneByte : Obligations.PhaPhpPushOneByte := fun _ =>
  ⟨exec_push_spec (i := .pha) rfl, exec_push_spec (i := .php) rfl⟩

/-- Settles O42: PLA writes what `pop` returns to A, and `pop` after `push` returns the byte pushed. -/
theorem plaPullsAAndSetsSZ : Obligations.PlaPullsAAndSetsSZ := by
  intro s
  refine ⟨⟨(s.popState.setA s.popValue).setSZ s.popValue, rfl, popValue_eq s, ?_, showsSZ_setSZ _ _,
    popState_stackWraps s, ?_⟩, fun t u hpha hpla => ?_⟩
  · rw [setSZ_sp, setA_sp, popState_sp, toNat_add_one_byte]
  · exact (((popState_keepsAllBut s).trans (setA_keepsAllBut _ _)).trans (setSZ_keepsAllBut _ _)).mono (by simp)
  · obtain rfl : s.push s.a = t := Host.Outcome.next.inj hpha
    obtain rfl : ((s.push s.a).popState.setA (s.push s.a).popValue).setSZ (s.push s.a).popValue = u :=
      Host.Outcome.next.inj hpla
    exact popAfterPushReturnsTheByte s s.a

/-- Settles O43: each is one flag write. -/
theorem flagInstructionsWriteOneBit : Obligations.FlagInstructionsWriteOneBit := fun s f hf =>
  ⟨s.setFlag f.2.1 f.2.2, exec_flagWrites s f hf, by simp, setFlag_keepsAllBut s _ _⟩

end

/-! ## NOP and BRK -/

section
namespace Sys2Proof.Machine

section
variable {s : State}

theorem haltCheck_eq_stopEngine (h : s.pc = 0x0000#16 ∨ s.stopRequested = true) : s.haltCheck = s.stopEngine := by
  rcases haltCheck_cases s with ⟨e, -⟩ | ⟨-, hz, hr⟩
  · exact e
  · simp [hz, hr] at h

theorem haltCheck_eq_self (hz : s.pc ≠ 0x0000#16) (hr : s.stopRequested = false) : s.haltCheck = s := by
  rcases haltCheck_cases s with ⟨-, h⟩ | ⟨e, -⟩
  · simp [hz, hr] at h
  · exact e

end

section
variable (r : Byte) (s : State)

/-- What every step does before its instruction: the random byte, and PC past the opcode byte (R70). -/
theorem opcodeFetched_keepsAllBut : KeepsAllBut [.cell 0x00FE#16, .pc] s ((s.writeRandom r).consume 1#16) :=
  (write_keepsAllBut s _ r).trans (consume_keepsAllBut _ _)

theorem opcodeFetched_read_rndAddr : ((s.writeRandom r).consume 1#16).read 0x00FE#16 = r := by
  rw [consume_read, writeRandom_read]
  exact if_pos rfl

/-- A step on the opcode byte of an instruction without operands runs it (R70). -/
theorem engineStep_of_op0 {i : Instr} (h : lookupOpcode ((s.writeRandom r).read s.pc) = some (.op0 i)) :
    engineStep r s = finishStep (exec i ((s.writeRandom r).consume 1#16)) := by
  apply runInstruction_of_decode (rest := [(s.writeRandom r).read (s.pc + 1#16), (s.writeRandom r).read (s.pc + 2#16)])
  rw [fetchBytes_eq_offsets, writeRandom_pc, decode, h]

end

end Sys2Proof.Machine

open Sys2Proof Sys2Proof.Machine

/-- Settles O44: NOP answers the state it is given, and the halt condition leaves that state as it is. -/
theorem nopDoesNothing : Obligations.NopDoesNothing := by
  refine ⟨fun _ => rfl, fun r s hb hr hpc => ?_⟩
  have hop : lookupOpcode ((s.writeRandom r).read s.pc) = some (.op0 .nop) := congrArg lookupOpcode hb
  have hgo : ((s.writeRandom r).consume 1#16).haltCheck = (s.writeRandom r).consume 1#16 :=
    haltCheck_eq_self (fun hz => hpc (by rw [consume_pc, writeRandom_pc] at hz; bv_omega)) hr
  refine ⟨(s.writeRandom r).consume 1#16, ?_, opcodeFetched_read_rndAddr r s, rfl, opcodeFetched_keepsAllBut r s⟩
  calc engineStep r s = .next ((s.writeRandom r).consume 1#16).haltCheck := engineStep_of_op0 r s hop
    _ = .next ((s.writeRandom r).consume 1#16) := congrArg _ hgo

/-- Settles O11: BRK is the request alone, which stops the engine in the halt condition. -/
theorem brkStopsAfterOneByte : Obligations.BrkStopsAfterOneByte := by
  refine ⟨fun r s hb => ?_, fun s => ⟨s.requestStop, rfl, rfl, setStopRequested_keepsAllBut s true⟩⟩
  have hop : lookupOpcode ((s.writeRandom r).read s.pc) = some (.op0 .brk) := congrArg lookupOpcode hb
  have hstop : ((s.writeRandom r).consume 1#16).requestStop.haltCheck = ((s.writeRandom r).consume 1#16).stopEngine :=
    haltCheck_eq_stopEngine (.inr rfl)
  refine ⟨((s.writeRandom r).consume 1#16).stopEngine, ?_, rfl, rfl, opcodeFetched_read_rndAddr r s, rfl, ?_⟩
  · calc engineStep r s = .next ((s.writeRandom r).consume 1#16).requestStop.haltCheck := engineStep_of_op0 r s hop
      _ = .next ((s.writeRandom r).consume 1#16).stopEngine := congrArg _ hstop
  · exact ((opcodeFetched_keepsAllBut r s).trans (stopEngine_keepsAllBut _)).mono (by simp)

end

/-! PROOFS. The family of spec/60_exceptions.md: no instruction raises an exception, what the rendezvous window leaves, and
the latched fault. -/

/-! ## Every instruction completes -/

section
open Sys2Proof Sys2Proof.Machine

/-- Settles O45: every instruction is a template, and every template completes. -/
theorem everyInstructionCompletes : Obligations.EveryInstructionCompletes := by
  intro i s
  obtain ⟨t, ht, -, -⟩ := (Template.of i).run_spec s
  exact ⟨t, (exec_eq_run i s).trans ht⟩

end

/-! ## The rendezvous window

While Held no step is enabled (R101, R224), so an event of the window that is no host write, RESET or OBS_END writes RUN
and the stop request, or EXT_TABLE, or nothing. -/

section
namespace Sys2Proof.Machine

/-- What a window leaves: memory as data, and every part of the state but the three that its quiet moves write. -/
structure Frozen (s t : State) : Prop where
  mem : t.mem = s.mem
  keeps : KeepsAllBut [.run, .stopRequest, .extTable] s t

theorem setExtTable_keepsAllBut (s : State) (v : List Byte) : KeepsAllBut [.extTable] s (s.setExtTable v) := by
  intro q hq
  cases q with
  | extTable => exact absurd (.head _) hq
  | _ => rfl

section
variable {s t u : State}

theorem Frozen.refl : Frozen s s := ⟨rfl, fun q _ => by cases q <;> rfl⟩

theorem Frozen.trans (h : Frozen s t) (k : Frozen t u) : Frozen s u :=
  ⟨k.mem.trans h.mem, (h.keeps.trans k.keeps).mono (by simp)⟩

theorem Frozen.hold (h : Frozen s t) : t.hold = s.hold := h.keeps .hold (by simp)

theorem not_free_of_held (hh : s.hold = .held) : s.hold ≠ .free := by simp [hh]

/-- While Held the engine's own move answers the state it is given (R101, R224). -/
theorem step_frozen (hh : s.hold = .held) (h : step s = .next t) : Frozen s t := by
  rcases step_cases h with ⟨-, ⟨-, free, -⟩ | ⟨-, rfl⟩⟩
  · exact absurd free (not_free_of_held hh)
  · exact .refl

/-- While Held a quiet host move that answers a state is START, STOP, a binding, or a move that changes nothing: the
others take a step or open a window, both for HOLD = Free, or are not quiet. -/
theorem hostMove_frozen {m : HostMove} {reply : Reply} (hh : s.hold = .held)
    (hq : Forms.quietEvent (.host m) = true) (h : hostMove m s = .next (t, reply)) : Frozen s t := by
  rcases hostMove_cases h with ⟨rfl, -, -⟩ | ⟨-, -, rfl⟩ | ⟨-, rfl⟩ | ⟨-, enabled, -⟩ | ⟨-, -, free, -⟩ |
    ⟨-, free, -⟩ | ⟨rfl, -, -⟩ | ⟨addr, value, w, rfl, -, -, -⟩ | ⟨op, -, -, -, rfl⟩ | rfl
  · cases hq
  · exact ⟨rfl, (setRun_keepsAllBut s .running).mono (by simp)⟩
  · exact ⟨rfl, (stopEngine_keepsAllBut s).mono (by simp)⟩
  · obtain ⟨-, free, -⟩ := stepEnabled_iff.1 enabled
    exact absurd free (not_free_of_held hh)
  · exact absurd free (not_free_of_held hh)
  · exact absurd free (not_free_of_held hh)
  · cases hq
  · cases hq
  · exact ⟨rfl, (setExtTable_keepsAllBut s _).mono (by simp)⟩
  · exact .refl

theorem after_frozen {e : Event} (hh : s.hold = .held) (hq : Forms.quietEvent e = true) (h : s.after e = .next t) :
    Frozen s t := by
  rcases after_cases h with ⟨-, hst⟩ | ⟨m, reply, rfl, hm⟩
  · exact step_frozen hh hst
  · exact hostMove_frozen hh hq hm

theorem afterAll_frozen {es : List Event} (hh : s.hold = .held) (hq : ∀ e ∈ es, Forms.quietEvent e = true)
    (h : s.afterAll es = .next t) : Frozen s t := by
  induction es generalizing s with
  | nil => injection h with h; exact h ▸ .refl
  | cons e es ih =>
    obtain ⟨u, hu, hut⟩ := afterAll_cons_next h
    obtain ⟨hqe, hqes⟩ := List.forall_mem_cons.1 hq
    have hsu : Frozen s u := after_frozen hh hqe hu
    exact hsu.trans (ih (hsu.hold.trans hh) hqes hut)

end

end Sys2Proof.Machine

open Sys2Proof Sys2Proof.Machine

/-- Settles O54, by induction on the events of the window; OBS_BEGIN and OBS_END look at HOLD alone. -/
theorem windowFreezesTheMachine : Obligations.WindowFreezesTheMachine := by
  refine ⟨fun es s t hh hq h => ?_, fun s hh => ⟨if_neg (by simp [hh]), if_pos hh⟩,
    fun s hh => ⟨if_neg (by simp [hh]), if_pos hh⟩⟩
  have hst : Frozen s t := afterAll_frozen hh hq h
  exact ⟨hst.hold.trans hh, hst.mem, hst.keeps⟩

end

/-! ## A latched fault -/

section
namespace Sys2Proof.Machine

section
variable {s : State} {f : FaultRecord}

/-- A step from a state with FAULT set is the fault outcome of the record (R218). -/
theorem step_of_fault (hf : s.faultLatch = some f) : step s = .fault f.outcome := by
  simp only [step, pacedStep, hf]

theorem hostMove_start_of_fault (hf : s.faultLatch = some f) : hostMove .start s = .refused .startWhileFaulted :=
  if_pos (by simp [hf])

end

end Sys2Proof.Machine

open Sys2Proof Sys2Proof.Machine

/-- Settles O9: the engine's move, START and STEP look at FAULT first, and RESET clears it and leaves RUN. -/
theorem faultIsFinalUntilReset : Obligations.FaultIsFinalUntilReset := by
  intro s f hf
  obtain ⟨-, hstep, -⟩ := stepCommandLeavesRunUnlessHalted s
  obtain ⟨-, -, hreset, -⟩ := runControlMoves s
  exact ⟨step_of_fault hf, hostMove_start_of_fault hf, hstep (by simp [hf]),
    fun hr => ⟨s.performReset, hreset hr, rfl, hr⟩⟩

end

/-! ## Construction and RESET -/

section
namespace Sys2Proof.Machine

/-- RESET_P sets reserved bits alone (R16, R29). -/
theorem construct_flag (m : Memory) (f : Flag) : (State.construct m).flag f = false := by
  have hp : (State.construct m).flag f = State.reset.flag f := flag_congr rfl f
  rw [hp]
  cases f <;> decide

/-- What a cell reads after RESET (R241). -/
theorem performReset_read (s : State) (b : Word) :
    s.performReset.read b = if b.toNat < Config.resetClearEnd then 0x00#8 else s.read b :=
  s.mem.read_clearLow b

end Sys2Proof.Machine

open Sys2Proof Sys2Proof.Machine

/-- Settles O49: construction writes each field; that no flag is set is `construct_flag`. -/
theorem constructionGivesTheInitialState : Obligations.ConstructionGivesTheInitialState :=
  ⟨fun m => ⟨rfl, rfl, rfl, rfl, rfl, rfl, construct_flag m, rfl, rfl, rfl, rfl, rfl⟩, rfl⟩

/-- Settles O50: a cell is cleared exactly below `Config.resetClearEnd`, and every other field is written or left. -/
theorem resetZeroesLowMemoryAndRegisters : Obligations.ResetZeroesLowMemoryAndRegisters := by
  intro s
  have low (b : Word) (hb : b.toNat ≤ 0x05FF) : s.performReset.read b = 0x00#8 :=
    (performReset_read s b).trans (if_pos (Nat.lt_succ_of_le hb))
  have high (b : Word) (hb : 0x0600 ≤ b.toNat) : s.performReset.read b = s.read b :=
    (performReset_read s b).trans (if_neg (Nat.not_lt_of_le hb))
  exact ⟨low, high, rfl, rfl, rfl, rfl, rfl, rfl, rfl, rfl, rfl, rfl, rfl, rfl, rfl⟩

end
